-- ==== Sys2Proof/Word.lean ====
section
/-! DEFINITION. The words of the machine: the byte, the 16-bit word, the 24-bit address, and the operand width that
the flags `m` and `x` select (rules R5, R10, R60). -/

namespace Sys2Proof

/-- A byte: a memory cell, a bank number, the status byte (R20, R60). -/
abbrev Byte := BitVec 8

/-- A 16-bit word: a register, an offset inside a bank (R20). -/
abbrev Word := BitVec 16

/-- A 24-bit address `bank:off` (R60, parameter `ADDR_BITS` of R4). -/
abbrev Addr := BitVec 24

/-- The cumulative cycle count, `CYC_WIDTH` = 64 bits (R4, R368). -/
abbrev CycleCount := BitVec 64

/-- The width of an operand: 8 or 16 bits, nothing else (R10, R72). -/
inductive Width where
  | w8
  | w16
  deriving DecidableEq, Repr

/-- R10: `W(f)` is 8 when the flag bit is 1 and 16 when it is 0. -/
def Width.ofFlag (f : Bool) : Width := if f then .w8 else .w16

/-- The width in bits. -/
def Width.bits : Width → Nat
  | .w8 => 8
  | .w16 => 16

/-- The width in bytes. -/
def Width.bytes : Width → Nat
  | .w8 => 1
  | .w16 => 2

end Sys2Proof
end

