-- ==== Sys2Proof/Config.lean ====
section
/-! DEFINITION. What the machine takes as given and no instruction changes: the sizes of R4 and the launch values
that the spec leaves unspecified. The parameters of R4 that have a default the spec uses (`DP_E_WRAP`,
`INDEX_CROSSES_BANK`, `UNIMPL`, `PagePenalty`, the vectors, `BASE_CYCLES`) stand in Machine/Params.lean and
Machine/Cycles.lean, where a repair may reach them. The spec leaves the RESULT of no instruction undefined
(93_implementation_defined.md: "No behaviour of this block is `stuck` or `unpredictable`"), so the model needs no
free value. -/

namespace Sys2Proof.Config

/-- R4 `ADDR_BITS`: the width of `Addr`. -/
def addrBits : Nat := 24

/-- R4 `BANK_SIZE`: bytes per bank. -/
def bankSize : Nat := 0x10000

/-- R4 `CYC_WIDTH`: the default, the width of `CycleCount`. -/
def cycWidth : Nat := 64

/-- R4 `MEM_INIT`: what a cell that nothing has written reads as. DESIGN CHOICE (unsafe, log entry 2): the spec
allows any value per byte. -/
def memInit : Byte := 0x00

/-- R48 `RESET_C`. DESIGN CHOICE (unsafe, log entry 1): the spec allows any value. -/
def resetC : Word := 0x0000

/-- R48 `RESET_XL`. DESIGN CHOICE (unsafe, log entry 1): the spec allows any value. -/
def resetXL : Byte := 0x00

/-- R48 `RESET_YL`. DESIGN CHOICE (unsafe, log entry 1): the spec allows any value. -/
def resetYL : Byte := 0x00

/-- R48 `RESET_SL`. DESIGN CHOICE (unsafe, log entry 1): the spec allows any value. -/
def resetSL : Byte := 0x00

/-- R48 `RESET_N`. DESIGN CHOICE (unsafe, log entry 1): the spec allows any value. -/
def resetN : Bool := false

/-- R48 `RESET_V`. DESIGN CHOICE (unsafe, log entry 1): the spec allows any value. -/
def resetV : Bool := false

/-- R48 `RESET_Z`. DESIGN CHOICE (unsafe, log entry 1): the spec allows any value. -/
def resetZ : Bool := false

/-- R48 `RESET_CARRY`. DESIGN CHOICE (unsafe, log entry 1): the spec allows any value. -/
def resetCarry : Bool := false

end Sys2Proof.Config
end

