-- ==== Sys2Proof/Syntax.lean ====
section
/-! DEFINITION. The instruction set as syntax: the 92 mnemonics (R18, R100), the operand of each addressing mode as the
instruction bytes give it (R92, R101), and ONE constructor of `Instr` per row of spec/opcode_table.json (268: the 256
opcodes of R100 and the 12 wide immediates of R93). -/

namespace Sys2Proof

/-- The 92 mnemonics, in the order of their first opcode (R18, R100). -/
inductive Mnemonic where
  | brk | ora | cop | tsb | asl | php | phd | bpl | trb | clc | inc | tcs
  | jsr | and | jsl | bit | rol | plp | pld | bmi | sec | dec | tsc | rti
  | eor | wdm | mvp | lsr | pha | phk | jmp | bvc | mvn | cli | phy | tcd
  | jml | rts | adc | per | stz | ror | pla | rtl | bvs | sei | ply | tdc
  | bra | sta | brl | sty | stx | dey | txa | phb | bcc | tya | txs | txy
  | ldy | lda | ldx | tay | tax | plb | bcs | clv | tsx | tyx | cpy | cmp
  | rep | iny | dex | wai | bne | pei | cld | phx | stp | cpx | sbc | sep
  | inx | nop | xba | beq | pea | sed | plx | xce
  deriving DecidableEq, Repr

/-- The operand of an instruction, by its addressing mode (the mode codes of R101), with the field the instruction bytes
hold (R92). The width-dependent immediates stand twice, once for each table that holds them (R93, R94). -/
inductive Operand where
  /-- `imp`: implied, no operand byte (R124). -/
  | imp
  /-- `stk`: the operand lies on the stack, no operand byte (R124). -/
  | stk
  /-- `acc`: the accumulator (R125). -/
  | acc
  /-- `immm` with `m = 1`: one immediate byte (R126, R93). -/
  | immM8 (v : Byte)
  /-- `immm` with `m = 0`: two immediate bytes (R126, R93). -/
  | immM16 (v : Word)
  /-- `immx` with `x = 1`: one immediate byte (R127, R93). -/
  | immX8 (v : Byte)
  /-- `immx` with `x = 0`: two immediate bytes (R127, R93). -/
  | immX16 (v : Word)
  /-- `imm8`: the 8-bit mask of REP and SEP (R128). -/
  | imm8 (k : Byte)
  /-- `imm16`: the 16-bit value of PEA (R128). -/
  | imm16 (v : Word)
  /-- `sig`: the signature byte of BRK, COP and WDM, read and ignored (R128). -/
  | sig (b : Byte)
  /-- `dp`: direct page (R129). -/
  | dp (dd : Byte)
  /-- `dpx`: direct page indexed by X (R130). -/
  | dpx (dd : Byte)
  /-- `dpy`: direct page indexed by Y (R131). -/
  | dpy (dd : Byte)
  /-- `idp`: direct page indirect (R132). -/
  | idp (dd : Byte)
  /-- `idpx`: direct page indexed indirect (R133). -/
  | idpx (dd : Byte)
  /-- `idpy`: direct page indirect indexed (R134). -/
  | idpy (dd : Byte)
  /-- `ildp`: direct page indirect long (R135). -/
  | ildp (dd : Byte)
  /-- `ildpy`: direct page indirect long indexed (R136). -/
  | ildpy (dd : Byte)
  /-- `sr`: stack relative (R142). -/
  | sr (sr : Byte)
  /-- `isry`: stack relative indirect indexed (R143). -/
  | isry (sr : Byte)
  /-- `rel8`: signed 8-bit displacement (R144). -/
  | rel8 (disp : Byte)
  /-- `rel16`: 16-bit displacement (R145). -/
  | rel16 (disp : Word)
  /-- `abs`: absolute, in the data bank (R137). -/
  | abs (aa : Word)
  /-- `absx`: absolute indexed by X (R138). -/
  | absx (aa : Word)
  /-- `absy`: absolute indexed by Y (R139). -/
  | absy (aa : Word)
  /-- `pabs`: absolute, a target in the program bank (R151). -/
  | pabs (aa : Word)
  /-- `iabs`: absolute indirect (R146). -/
  | iabs (aa : Word)
  /-- `iabsx`: absolute indexed indirect (R147). -/
  | iabsx (aa : Word)
  /-- `ilabs`: absolute indirect long (R148). -/
  | ilabs (aa : Word)
  /-- `long`: absolute long (R140). -/
  | long (al : Addr)
  /-- `longx`: absolute long indexed by X (R141). -/
  | longx (al : Addr)
  /-- `plong`: absolute long, a target (R151). -/
  | plong (al : Addr)
  /-- `move`: destination bank and source bank of a block move (R149). -/
  | move (dst src : Byte)
  deriving DecidableEq, Repr

/-- The instructions: one constructor per row of spec/opcode_table.json; first the rows that hold an operand, then those
that hold none (Lean allows at most 244 constructors before the last one with a field), each in the table's order. A name is the mnemonic and,
where the mnemonic has several rows, the mode code; `ImmM8` and `ImmM16` are the rows for `m = 1` and `m = 0`, `ImmX8` and
`ImmX16` those for `x = 1` and `x = 0` (R93). -/
inductive Instr where
  /-- 0x00 `BRK #sig` (R269). -/
  | brk (sig : Byte)
  /-- 0x01 `ORA (d,X)` (R182). -/
  | oraIdpx (dd : Byte)
  /-- 0x02 `COP #sig` (R270). -/
  | cop (sig : Byte)
  /-- 0x03 `ORA d,S` (R182). -/
  | oraSr (sr : Byte)
  /-- 0x04 `TSB d` (R189). -/
  | tsbDp (dd : Byte)
  /-- 0x05 `ORA d` (R182). -/
  | oraDp (dd : Byte)
  /-- 0x06 `ASL d` (R185). -/
  | aslDp (dd : Byte)
  /-- 0x07 `ORA [d]` (R182). -/
  | oraIldp (dd : Byte)
  /-- 0x09 `ORA #m`, m=1 (R182). -/
  | oraImmM8 (v : Byte)
  /-- 0x09 `ORA #m`, m=0 (R182). -/
  | oraImmM16 (v : Word)
  /-- 0x0C `TSB a` (R189). -/
  | tsbAbs (aa : Word)
  /-- 0x0D `ORA a` (R182). -/
  | oraAbs (aa : Word)
  /-- 0x0E `ASL a` (R185). -/
  | aslAbs (aa : Word)
  /-- 0x0F `ORA al` (R182). -/
  | oraLong (al : Addr)
  /-- 0x10 `BPL r8` (R265). -/
  | bpl (disp : Byte)
  /-- 0x11 `ORA (d),Y` (R182). -/
  | oraIdpy (dd : Byte)
  /-- 0x12 `ORA (d)` (R182). -/
  | oraIdp (dd : Byte)
  /-- 0x13 `ORA (d,S),Y` (R182). -/
  | oraIsry (sr : Byte)
  /-- 0x14 `TRB d` (R190). -/
  | trbDp (dd : Byte)
  /-- 0x15 `ORA d,X` (R182). -/
  | oraDpx (dd : Byte)
  /-- 0x16 `ASL d,X` (R185). -/
  | aslDpx (dd : Byte)
  /-- 0x17 `ORA [d],Y` (R182). -/
  | oraIldpy (dd : Byte)
  /-- 0x19 `ORA a,Y` (R182). -/
  | oraAbsy (aa : Word)
  /-- 0x1C `TRB a` (R190). -/
  | trbAbs (aa : Word)
  /-- 0x1D `ORA a,X` (R182). -/
  | oraAbsx (aa : Word)
  /-- 0x1E `ASL a,X` (R185). -/
  | aslAbsx (aa : Word)
  /-- 0x1F `ORA al,X` (R182). -/
  | oraLongx (al : Addr)
  /-- 0x20 `JSR a` (R253). -/
  | jsrPabs (aa : Word)
  /-- 0x21 `AND (d,X)` (R181). -/
  | andIdpx (dd : Byte)
  /-- 0x22 `JSL al` (R254). -/
  | jsl (al : Addr)
  /-- 0x23 `AND d,S` (R181). -/
  | andSr (sr : Byte)
  /-- 0x24 `BIT d` (R184). -/
  | bitDp (dd : Byte)
  /-- 0x25 `AND d` (R181). -/
  | andDp (dd : Byte)
  /-- 0x26 `ROL d` (R187). -/
  | rolDp (dd : Byte)
  /-- 0x27 `AND [d]` (R181). -/
  | andIldp (dd : Byte)
  /-- 0x29 `AND #m`, m=1 (R181). -/
  | andImmM8 (v : Byte)
  /-- 0x29 `AND #m`, m=0 (R181). -/
  | andImmM16 (v : Word)
  /-- 0x2C `BIT a` (R184). -/
  | bitAbs (aa : Word)
  /-- 0x2D `AND a` (R181). -/
  | andAbs (aa : Word)
  /-- 0x2E `ROL a` (R187). -/
  | rolAbs (aa : Word)
  /-- 0x2F `AND al` (R181). -/
  | andLong (al : Addr)
  /-- 0x30 `BMI r8` (R264). -/
  | bmi (disp : Byte)
  /-- 0x31 `AND (d),Y` (R181). -/
  | andIdpy (dd : Byte)
  /-- 0x32 `AND (d)` (R181). -/
  | andIdp (dd : Byte)
  /-- 0x33 `AND (d,S),Y` (R181). -/
  | andIsry (sr : Byte)
  /-- 0x34 `BIT d,X` (R184). -/
  | bitDpx (dd : Byte)
  /-- 0x35 `AND d,X` (R181). -/
  | andDpx (dd : Byte)
  /-- 0x36 `ROL d,X` (R187). -/
  | rolDpx (dd : Byte)
  /-- 0x37 `AND [d],Y` (R181). -/
  | andIldpy (dd : Byte)
  /-- 0x39 `AND a,Y` (R181). -/
  | andAbsy (aa : Word)
  /-- 0x3C `BIT a,X` (R184). -/
  | bitAbsx (aa : Word)
  /-- 0x3D `AND a,X` (R181). -/
  | andAbsx (aa : Word)
  /-- 0x3E `ROL a,X` (R187). -/
  | rolAbsx (aa : Word)
  /-- 0x3F `AND al,X` (R181). -/
  | andLongx (al : Addr)
  /-- 0x41 `EOR (d,X)` (R183). -/
  | eorIdpx (dd : Byte)
  /-- 0x42 `WDM #sig` (R344). -/
  | wdm (sig : Byte)
  /-- 0x43 `EOR d,S` (R183). -/
  | eorSr (sr : Byte)
  /-- 0x44 `MVP mv` (R342). -/
  | mvp (dst : Byte) (src : Byte)
  /-- 0x45 `EOR d` (R183). -/
  | eorDp (dd : Byte)
  /-- 0x46 `LSR d` (R186). -/
  | lsrDp (dd : Byte)
  /-- 0x47 `EOR [d]` (R183). -/
  | eorIldp (dd : Byte)
  /-- 0x49 `EOR #m`, m=1 (R183). -/
  | eorImmM8 (v : Byte)
  /-- 0x49 `EOR #m`, m=0 (R183). -/
  | eorImmM16 (v : Word)
  /-- 0x4C `JMP a` (R251). -/
  | jmpPabs (aa : Word)
  /-- 0x4D `EOR a` (R183). -/
  | eorAbs (aa : Word)
  /-- 0x4E `LSR a` (R186). -/
  | lsrAbs (aa : Word)
  /-- 0x4F `EOR al` (R183). -/
  | eorLong (al : Addr)
  /-- 0x50 `BVC r8` (R266). -/
  | bvc (disp : Byte)
  /-- 0x51 `EOR (d),Y` (R183). -/
  | eorIdpy (dd : Byte)
  /-- 0x52 `EOR (d)` (R183). -/
  | eorIdp (dd : Byte)
  /-- 0x53 `EOR (d,S),Y` (R183). -/
  | eorIsry (sr : Byte)
  /-- 0x54 `MVN mv` (R341). -/
  | mvn (dst : Byte) (src : Byte)
  /-- 0x55 `EOR d,X` (R183). -/
  | eorDpx (dd : Byte)
  /-- 0x56 `LSR d,X` (R186). -/
  | lsrDpx (dd : Byte)
  /-- 0x57 `EOR [d],Y` (R183). -/
  | eorIldpy (dd : Byte)
  /-- 0x59 `EOR a,Y` (R183). -/
  | eorAbsy (aa : Word)
  /-- 0x5C `JML al` (R252). -/
  | jmlPlong (al : Addr)
  /-- 0x5D `EOR a,X` (R183). -/
  | eorAbsx (aa : Word)
  /-- 0x5E `LSR a,X` (R186). -/
  | lsrAbsx (aa : Word)
  /-- 0x5F `EOR al,X` (R183). -/
  | eorLongx (al : Addr)
  /-- 0x61 `ADC (d,X)` (R161). -/
  | adcIdpx (dd : Byte)
  /-- 0x62 `PER r16` (R306). -/
  | per (disp : Word)
  /-- 0x63 `ADC d,S` (R161). -/
  | adcSr (sr : Byte)
  /-- 0x64 `STZ d` (R217). -/
  | stzDp (dd : Byte)
  /-- 0x65 `ADC d` (R161). -/
  | adcDp (dd : Byte)
  /-- 0x66 `ROR d` (R188). -/
  | rorDp (dd : Byte)
  /-- 0x67 `ADC [d]` (R161). -/
  | adcIldp (dd : Byte)
  /-- 0x69 `ADC #m`, m=1 (R161). -/
  | adcImmM8 (v : Byte)
  /-- 0x69 `ADC #m`, m=0 (R161). -/
  | adcImmM16 (v : Word)
  /-- 0x6C `JMP (a)` (R251). -/
  | jmpIabs (aa : Word)
  /-- 0x6D `ADC a` (R161). -/
  | adcAbs (aa : Word)
  /-- 0x6E `ROR a` (R188). -/
  | rorAbs (aa : Word)
  /-- 0x6F `ADC al` (R161). -/
  | adcLong (al : Addr)
  /-- 0x70 `BVS r8` (R267). -/
  | bvs (disp : Byte)
  /-- 0x71 `ADC (d),Y` (R161). -/
  | adcIdpy (dd : Byte)
  /-- 0x72 `ADC (d)` (R161). -/
  | adcIdp (dd : Byte)
  /-- 0x73 `ADC (d,S),Y` (R161). -/
  | adcIsry (sr : Byte)
  /-- 0x74 `STZ d,X` (R217). -/
  | stzDpx (dd : Byte)
  /-- 0x75 `ADC d,X` (R161). -/
  | adcDpx (dd : Byte)
  /-- 0x76 `ROR d,X` (R188). -/
  | rorDpx (dd : Byte)
  /-- 0x77 `ADC [d],Y` (R161). -/
  | adcIldpy (dd : Byte)
  /-- 0x79 `ADC a,Y` (R161). -/
  | adcAbsy (aa : Word)
  /-- 0x7C `JMP (a,X)` (R251). -/
  | jmpIabsx (aa : Word)
  /-- 0x7D `ADC a,X` (R161). -/
  | adcAbsx (aa : Word)
  /-- 0x7E `ROR a,X` (R188). -/
  | rorAbsx (aa : Word)
  /-- 0x7F `ADC al,X` (R161). -/
  | adcLongx (al : Addr)
  /-- 0x80 `BRA r8` (R259). -/
  | bra (disp : Byte)
  /-- 0x81 `STA (d,X)` (R214). -/
  | staIdpx (dd : Byte)
  /-- 0x82 `BRL r16` (R268). -/
  | brl (disp : Word)
  /-- 0x83 `STA d,S` (R214). -/
  | staSr (sr : Byte)
  /-- 0x84 `STY d` (R216). -/
  | styDp (dd : Byte)
  /-- 0x85 `STA d` (R214). -/
  | staDp (dd : Byte)
  /-- 0x86 `STX d` (R215). -/
  | stxDp (dd : Byte)
  /-- 0x87 `STA [d]` (R214). -/
  | staIldp (dd : Byte)
  /-- 0x89 `BIT #m`, m=1 (R184). -/
  | bitImmM8 (v : Byte)
  /-- 0x89 `BIT #m`, m=0 (R184). -/
  | bitImmM16 (v : Word)
  /-- 0x8C `STY a` (R216). -/
  | styAbs (aa : Word)
  /-- 0x8D `STA a` (R214). -/
  | staAbs (aa : Word)
  /-- 0x8E `STX a` (R215). -/
  | stxAbs (aa : Word)
  /-- 0x8F `STA al` (R214). -/
  | staLong (al : Addr)
  /-- 0x90 `BCC r8` (R260). -/
  | bcc (disp : Byte)
  /-- 0x91 `STA (d),Y` (R214). -/
  | staIdpy (dd : Byte)
  /-- 0x92 `STA (d)` (R214). -/
  | staIdp (dd : Byte)
  /-- 0x93 `STA (d,S),Y` (R214). -/
  | staIsry (sr : Byte)
  /-- 0x94 `STY d,X` (R216). -/
  | styDpx (dd : Byte)
  /-- 0x95 `STA d,X` (R214). -/
  | staDpx (dd : Byte)
  /-- 0x96 `STX d,Y` (R215). -/
  | stxDpy (dd : Byte)
  /-- 0x97 `STA [d],Y` (R214). -/
  | staIldpy (dd : Byte)
  /-- 0x99 `STA a,Y` (R214). -/
  | staAbsy (aa : Word)
  /-- 0x9C `STZ a` (R217). -/
  | stzAbs (aa : Word)
  /-- 0x9D `STA a,X` (R214). -/
  | staAbsx (aa : Word)
  /-- 0x9E `STZ a,X` (R217). -/
  | stzAbsx (aa : Word)
  /-- 0x9F `STA al,X` (R214). -/
  | staLongx (al : Addr)
  /-- 0xA0 `LDY #x`, x=1 (R213). -/
  | ldyImmX8 (v : Byte)
  /-- 0xA0 `LDY #x`, x=0 (R213). -/
  | ldyImmX16 (v : Word)
  /-- 0xA1 `LDA (d,X)` (R211). -/
  | ldaIdpx (dd : Byte)
  /-- 0xA2 `LDX #x`, x=1 (R212). -/
  | ldxImmX8 (v : Byte)
  /-- 0xA2 `LDX #x`, x=0 (R212). -/
  | ldxImmX16 (v : Word)
  /-- 0xA3 `LDA d,S` (R211). -/
  | ldaSr (sr : Byte)
  /-- 0xA4 `LDY d` (R213). -/
  | ldyDp (dd : Byte)
  /-- 0xA5 `LDA d` (R211). -/
  | ldaDp (dd : Byte)
  /-- 0xA6 `LDX d` (R212). -/
  | ldxDp (dd : Byte)
  /-- 0xA7 `LDA [d]` (R211). -/
  | ldaIldp (dd : Byte)
  /-- 0xA9 `LDA #m`, m=1 (R211). -/
  | ldaImmM8 (v : Byte)
  /-- 0xA9 `LDA #m`, m=0 (R211). -/
  | ldaImmM16 (v : Word)
  /-- 0xAC `LDY a` (R213). -/
  | ldyAbs (aa : Word)
  /-- 0xAD `LDA a` (R211). -/
  | ldaAbs (aa : Word)
  /-- 0xAE `LDX a` (R212). -/
  | ldxAbs (aa : Word)
  /-- 0xAF `LDA al` (R211). -/
  | ldaLong (al : Addr)
  /-- 0xB0 `BCS r8` (R261). -/
  | bcs (disp : Byte)
  /-- 0xB1 `LDA (d),Y` (R211). -/
  | ldaIdpy (dd : Byte)
  /-- 0xB2 `LDA (d)` (R211). -/
  | ldaIdp (dd : Byte)
  /-- 0xB3 `LDA (d,S),Y` (R211). -/
  | ldaIsry (sr : Byte)
  /-- 0xB4 `LDY d,X` (R213). -/
  | ldyDpx (dd : Byte)
  /-- 0xB5 `LDA d,X` (R211). -/
  | ldaDpx (dd : Byte)
  /-- 0xB6 `LDX d,Y` (R212). -/
  | ldxDpy (dd : Byte)
  /-- 0xB7 `LDA [d],Y` (R211). -/
  | ldaIldpy (dd : Byte)
  /-- 0xB9 `LDA a,Y` (R211). -/
  | ldaAbsy (aa : Word)
  /-- 0xBC `LDY a,X` (R213). -/
  | ldyAbsx (aa : Word)
  /-- 0xBD `LDA a,X` (R211). -/
  | ldaAbsx (aa : Word)
  /-- 0xBE `LDX a,Y` (R212). -/
  | ldxAbsy (aa : Word)
  /-- 0xBF `LDA al,X` (R211). -/
  | ldaLongx (al : Addr)
  /-- 0xC0 `CPY #x`, x=1 (R203). -/
  | cpyImmX8 (v : Byte)
  /-- 0xC0 `CPY #x`, x=0 (R203). -/
  | cpyImmX16 (v : Word)
  /-- 0xC1 `CMP (d,X)` (R201). -/
  | cmpIdpx (dd : Byte)
  /-- 0xC2 `REP #8` (R320). -/
  | rep (k : Byte)
  /-- 0xC3 `CMP d,S` (R201). -/
  | cmpSr (sr : Byte)
  /-- 0xC4 `CPY d` (R203). -/
  | cpyDp (dd : Byte)
  /-- 0xC5 `CMP d` (R201). -/
  | cmpDp (dd : Byte)
  /-- 0xC6 `DEC d` (R166). -/
  | decDp (dd : Byte)
  /-- 0xC7 `CMP [d]` (R201). -/
  | cmpIldp (dd : Byte)
  /-- 0xC9 `CMP #m`, m=1 (R201). -/
  | cmpImmM8 (v : Byte)
  /-- 0xC9 `CMP #m`, m=0 (R201). -/
  | cmpImmM16 (v : Word)
  /-- 0xCC `CPY a` (R203). -/
  | cpyAbs (aa : Word)
  /-- 0xCD `CMP a` (R201). -/
  | cmpAbs (aa : Word)
  /-- 0xCE `DEC a` (R166). -/
  | decAbs (aa : Word)
  /-- 0xCF `CMP al` (R201). -/
  | cmpLong (al : Addr)
  /-- 0xD0 `BNE r8` (R263). -/
  | bne (disp : Byte)
  /-- 0xD1 `CMP (d),Y` (R201). -/
  | cmpIdpy (dd : Byte)
  /-- 0xD2 `CMP (d)` (R201). -/
  | cmpIdp (dd : Byte)
  /-- 0xD3 `CMP (d,S),Y` (R201). -/
  | cmpIsry (sr : Byte)
  /-- 0xD4 `PEI (d)` (R305). -/
  | pei (dd : Byte)
  /-- 0xD5 `CMP d,X` (R201). -/
  | cmpDpx (dd : Byte)
  /-- 0xD6 `DEC d,X` (R166). -/
  | decDpx (dd : Byte)
  /-- 0xD7 `CMP [d],Y` (R201). -/
  | cmpIldpy (dd : Byte)
  /-- 0xD9 `CMP a,Y` (R201). -/
  | cmpAbsy (aa : Word)
  /-- 0xDC `JML [a]` (R252). -/
  | jmlIlabs (aa : Word)
  /-- 0xDD `CMP a,X` (R201). -/
  | cmpAbsx (aa : Word)
  /-- 0xDE `DEC a,X` (R166). -/
  | decAbsx (aa : Word)
  /-- 0xDF `CMP al,X` (R201). -/
  | cmpLongx (al : Addr)
  /-- 0xE0 `CPX #x`, x=1 (R202). -/
  | cpxImmX8 (v : Byte)
  /-- 0xE0 `CPX #x`, x=0 (R202). -/
  | cpxImmX16 (v : Word)
  /-- 0xE1 `SBC (d,X)` (R163). -/
  | sbcIdpx (dd : Byte)
  /-- 0xE2 `SEP #8` (R321). -/
  | sep (k : Byte)
  /-- 0xE3 `SBC d,S` (R163). -/
  | sbcSr (sr : Byte)
  /-- 0xE4 `CPX d` (R202). -/
  | cpxDp (dd : Byte)
  /-- 0xE5 `SBC d` (R163). -/
  | sbcDp (dd : Byte)
  /-- 0xE6 `INC d` (R165). -/
  | incDp (dd : Byte)
  /-- 0xE7 `SBC [d]` (R163). -/
  | sbcIldp (dd : Byte)
  /-- 0xE9 `SBC #m`, m=1 (R163). -/
  | sbcImmM8 (v : Byte)
  /-- 0xE9 `SBC #m`, m=0 (R163). -/
  | sbcImmM16 (v : Word)
  /-- 0xEC `CPX a` (R202). -/
  | cpxAbs (aa : Word)
  /-- 0xED `SBC a` (R163). -/
  | sbcAbs (aa : Word)
  /-- 0xEE `INC a` (R165). -/
  | incAbs (aa : Word)
  /-- 0xEF `SBC al` (R163). -/
  | sbcLong (al : Addr)
  /-- 0xF0 `BEQ r8` (R262). -/
  | beq (disp : Byte)
  /-- 0xF1 `SBC (d),Y` (R163). -/
  | sbcIdpy (dd : Byte)
  /-- 0xF2 `SBC (d)` (R163). -/
  | sbcIdp (dd : Byte)
  /-- 0xF3 `SBC (d,S),Y` (R163). -/
  | sbcIsry (sr : Byte)
  /-- 0xF4 `PEA #16` (R304). -/
  | pea (v : Word)
  /-- 0xF5 `SBC d,X` (R163). -/
  | sbcDpx (dd : Byte)
  /-- 0xF6 `INC d,X` (R165). -/
  | incDpx (dd : Byte)
  /-- 0xF7 `SBC [d],Y` (R163). -/
  | sbcIldpy (dd : Byte)
  /-- 0xF9 `SBC a,Y` (R163). -/
  | sbcAbsy (aa : Word)
  /-- 0xFC `JSR (a,X)` (R253). -/
  | jsrIabsx (aa : Word)
  /-- 0xFD `SBC a,X` (R163). -/
  | sbcAbsx (aa : Word)
  /-- 0xFE `INC a,X` (R165). -/
  | incAbsx (aa : Word)
  /-- 0xFF `SBC al,X` (R163). -/
  | sbcLongx (al : Addr)
  /-- 0x08 `PHP` (R294). -/
  | php
  /-- 0x0A `ASL A` (R185). -/
  | aslAcc
  /-- 0x0B `PHD` (R296). -/
  | phd
  /-- 0x18 `CLC` (R323). -/
  | clc
  /-- 0x1A `INC A` (R165). -/
  | incAcc
  /-- 0x1B `TCS` (R228). -/
  | tcs
  /-- 0x28 `PLP` (R301). -/
  | plp
  /-- 0x2A `ROL A` (R187). -/
  | rolAcc
  /-- 0x2B `PLD` (R303). -/
  | pld
  /-- 0x38 `SEC` (R324). -/
  | sec
  /-- 0x3A `DEC A` (R166). -/
  | decAcc
  /-- 0x3B `TSC` (R229). -/
  | tsc
  /-- 0x40 `RTI` (R257). -/
  | rti
  /-- 0x48 `PHA` (R291). -/
  | pha
  /-- 0x4A `LSR A` (R186). -/
  | lsrAcc
  /-- 0x4B `PHK` (R297). -/
  | phk
  /-- 0x58 `CLI` (R327). -/
  | cli
  /-- 0x5A `PHY` (R293). -/
  | phy
  /-- 0x5B `TCD` (R226). -/
  | tcd
  /-- 0x60 `RTS` (R255). -/
  | rts
  /-- 0x68 `PLA` (R298). -/
  | pla
  /-- 0x6A `ROR A` (R188). -/
  | rorAcc
  /-- 0x6B `RTL` (R256). -/
  | rtl
  /-- 0x78 `SEI` (R328). -/
  | sei
  /-- 0x7A `PLY` (R300). -/
  | ply
  /-- 0x7B `TDC` (R227). -/
  | tdc
  /-- 0x88 `DEY` (R170). -/
  | dey
  /-- 0x8A `TXA` (R220). -/
  | txa
  /-- 0x8B `PHB` (R295). -/
  | phb
  /-- 0x98 `TYA` (R221). -/
  | tya
  /-- 0x9A `TXS` (R225). -/
  | txs
  /-- 0x9B `TXY` (R222). -/
  | txy
  /-- 0xA8 `TAY` (R219). -/
  | tay
  /-- 0xAA `TAX` (R218). -/
  | tax
  /-- 0xAB `PLB` (R302). -/
  | plb
  /-- 0xB8 `CLV` (R329). -/
  | clv
  /-- 0xBA `TSX` (R224). -/
  | tsx
  /-- 0xBB `TYX` (R223). -/
  | tyx
  /-- 0xC8 `INY` (R168). -/
  | iny
  /-- 0xCA `DEX` (R169). -/
  | dex
  /-- 0xCB `WAI` (R345). -/
  | wai
  /-- 0xD8 `CLD` (R325). -/
  | cld
  /-- 0xDA `PHX` (R292). -/
  | phx
  /-- 0xDB `STP` (R346). -/
  | stp
  /-- 0xE8 `INX` (R167). -/
  | inx
  /-- 0xEA `NOP` (R343). -/
  | nop
  /-- 0xEB `XBA` (R230). -/
  | xba
  /-- 0xF8 `SED` (R326). -/
  | sed
  /-- 0xFA `PLX` (R299). -/
  | plx
  /-- 0xFB `XCE` (R322). -/
  | xce
  deriving DecidableEq, Repr

/-- The table's row of an instruction: its opcode byte, mnemonic and operand (R96, R100; spec/opcode_table.json). -/
def Instr.row : Instr → Byte × Mnemonic × Operand
  | .brk sig => (0x00, .brk, .sig sig)
  | .oraIdpx dd => (0x01, .ora, .idpx dd)
  | .cop sig => (0x02, .cop, .sig sig)
  | .oraSr sr => (0x03, .ora, .sr sr)
  | .tsbDp dd => (0x04, .tsb, .dp dd)
  | .oraDp dd => (0x05, .ora, .dp dd)
  | .aslDp dd => (0x06, .asl, .dp dd)
  | .oraIldp dd => (0x07, .ora, .ildp dd)
  | .php => (0x08, .php, .stk)
  | .oraImmM8 v => (0x09, .ora, .immM8 v)
  | .oraImmM16 v => (0x09, .ora, .immM16 v)
  | .aslAcc => (0x0A, .asl, .acc)
  | .phd => (0x0B, .phd, .stk)
  | .tsbAbs aa => (0x0C, .tsb, .abs aa)
  | .oraAbs aa => (0x0D, .ora, .abs aa)
  | .aslAbs aa => (0x0E, .asl, .abs aa)
  | .oraLong al => (0x0F, .ora, .long al)
  | .bpl disp => (0x10, .bpl, .rel8 disp)
  | .oraIdpy dd => (0x11, .ora, .idpy dd)
  | .oraIdp dd => (0x12, .ora, .idp dd)
  | .oraIsry sr => (0x13, .ora, .isry sr)
  | .trbDp dd => (0x14, .trb, .dp dd)
  | .oraDpx dd => (0x15, .ora, .dpx dd)
  | .aslDpx dd => (0x16, .asl, .dpx dd)
  | .oraIldpy dd => (0x17, .ora, .ildpy dd)
  | .clc => (0x18, .clc, .imp)
  | .oraAbsy aa => (0x19, .ora, .absy aa)
  | .incAcc => (0x1A, .inc, .acc)
  | .tcs => (0x1B, .tcs, .imp)
  | .trbAbs aa => (0x1C, .trb, .abs aa)
  | .oraAbsx aa => (0x1D, .ora, .absx aa)
  | .aslAbsx aa => (0x1E, .asl, .absx aa)
  | .oraLongx al => (0x1F, .ora, .longx al)
  | .jsrPabs aa => (0x20, .jsr, .pabs aa)
  | .andIdpx dd => (0x21, .and, .idpx dd)
  | .jsl al => (0x22, .jsl, .plong al)
  | .andSr sr => (0x23, .and, .sr sr)
  | .bitDp dd => (0x24, .bit, .dp dd)
  | .andDp dd => (0x25, .and, .dp dd)
  | .rolDp dd => (0x26, .rol, .dp dd)
  | .andIldp dd => (0x27, .and, .ildp dd)
  | .plp => (0x28, .plp, .stk)
  | .andImmM8 v => (0x29, .and, .immM8 v)
  | .andImmM16 v => (0x29, .and, .immM16 v)
  | .rolAcc => (0x2A, .rol, .acc)
  | .pld => (0x2B, .pld, .stk)
  | .bitAbs aa => (0x2C, .bit, .abs aa)
  | .andAbs aa => (0x2D, .and, .abs aa)
  | .rolAbs aa => (0x2E, .rol, .abs aa)
  | .andLong al => (0x2F, .and, .long al)
  | .bmi disp => (0x30, .bmi, .rel8 disp)
  | .andIdpy dd => (0x31, .and, .idpy dd)
  | .andIdp dd => (0x32, .and, .idp dd)
  | .andIsry sr => (0x33, .and, .isry sr)
  | .bitDpx dd => (0x34, .bit, .dpx dd)
  | .andDpx dd => (0x35, .and, .dpx dd)
  | .rolDpx dd => (0x36, .rol, .dpx dd)
  | .andIldpy dd => (0x37, .and, .ildpy dd)
  | .sec => (0x38, .sec, .imp)
  | .andAbsy aa => (0x39, .and, .absy aa)
  | .decAcc => (0x3A, .dec, .acc)
  | .tsc => (0x3B, .tsc, .imp)
  | .bitAbsx aa => (0x3C, .bit, .absx aa)
  | .andAbsx aa => (0x3D, .and, .absx aa)
  | .rolAbsx aa => (0x3E, .rol, .absx aa)
  | .andLongx al => (0x3F, .and, .longx al)
  | .rti => (0x40, .rti, .stk)
  | .eorIdpx dd => (0x41, .eor, .idpx dd)
  | .wdm sig => (0x42, .wdm, .sig sig)
  | .eorSr sr => (0x43, .eor, .sr sr)
  | .mvp dst src => (0x44, .mvp, .move dst src)
  | .eorDp dd => (0x45, .eor, .dp dd)
  | .lsrDp dd => (0x46, .lsr, .dp dd)
  | .eorIldp dd => (0x47, .eor, .ildp dd)
  | .pha => (0x48, .pha, .stk)
  | .eorImmM8 v => (0x49, .eor, .immM8 v)
  | .eorImmM16 v => (0x49, .eor, .immM16 v)
  | .lsrAcc => (0x4A, .lsr, .acc)
  | .phk => (0x4B, .phk, .stk)
  | .jmpPabs aa => (0x4C, .jmp, .pabs aa)
  | .eorAbs aa => (0x4D, .eor, .abs aa)
  | .lsrAbs aa => (0x4E, .lsr, .abs aa)
  | .eorLong al => (0x4F, .eor, .long al)
  | .bvc disp => (0x50, .bvc, .rel8 disp)
  | .eorIdpy dd => (0x51, .eor, .idpy dd)
  | .eorIdp dd => (0x52, .eor, .idp dd)
  | .eorIsry sr => (0x53, .eor, .isry sr)
  | .mvn dst src => (0x54, .mvn, .move dst src)
  | .eorDpx dd => (0x55, .eor, .dpx dd)
  | .lsrDpx dd => (0x56, .lsr, .dpx dd)
  | .eorIldpy dd => (0x57, .eor, .ildpy dd)
  | .cli => (0x58, .cli, .imp)
  | .eorAbsy aa => (0x59, .eor, .absy aa)
  | .phy => (0x5A, .phy, .stk)
  | .tcd => (0x5B, .tcd, .imp)
  | .jmlPlong al => (0x5C, .jml, .plong al)
  | .eorAbsx aa => (0x5D, .eor, .absx aa)
  | .lsrAbsx aa => (0x5E, .lsr, .absx aa)
  | .eorLongx al => (0x5F, .eor, .longx al)
  | .rts => (0x60, .rts, .stk)
  | .adcIdpx dd => (0x61, .adc, .idpx dd)
  | .per disp => (0x62, .per, .rel16 disp)
  | .adcSr sr => (0x63, .adc, .sr sr)
  | .stzDp dd => (0x64, .stz, .dp dd)
  | .adcDp dd => (0x65, .adc, .dp dd)
  | .rorDp dd => (0x66, .ror, .dp dd)
  | .adcIldp dd => (0x67, .adc, .ildp dd)
  | .pla => (0x68, .pla, .stk)
  | .adcImmM8 v => (0x69, .adc, .immM8 v)
  | .adcImmM16 v => (0x69, .adc, .immM16 v)
  | .rorAcc => (0x6A, .ror, .acc)
  | .rtl => (0x6B, .rtl, .stk)
  | .jmpIabs aa => (0x6C, .jmp, .iabs aa)
  | .adcAbs aa => (0x6D, .adc, .abs aa)
  | .rorAbs aa => (0x6E, .ror, .abs aa)
  | .adcLong al => (0x6F, .adc, .long al)
  | .bvs disp => (0x70, .bvs, .rel8 disp)
  | .adcIdpy dd => (0x71, .adc, .idpy dd)
  | .adcIdp dd => (0x72, .adc, .idp dd)
  | .adcIsry sr => (0x73, .adc, .isry sr)
  | .stzDpx dd => (0x74, .stz, .dpx dd)
  | .adcDpx dd => (0x75, .adc, .dpx dd)
  | .rorDpx dd => (0x76, .ror, .dpx dd)
  | .adcIldpy dd => (0x77, .adc, .ildpy dd)
  | .sei => (0x78, .sei, .imp)
  | .adcAbsy aa => (0x79, .adc, .absy aa)
  | .ply => (0x7A, .ply, .stk)
  | .tdc => (0x7B, .tdc, .imp)
  | .jmpIabsx aa => (0x7C, .jmp, .iabsx aa)
  | .adcAbsx aa => (0x7D, .adc, .absx aa)
  | .rorAbsx aa => (0x7E, .ror, .absx aa)
  | .adcLongx al => (0x7F, .adc, .longx al)
  | .bra disp => (0x80, .bra, .rel8 disp)
  | .staIdpx dd => (0x81, .sta, .idpx dd)
  | .brl disp => (0x82, .brl, .rel16 disp)
  | .staSr sr => (0x83, .sta, .sr sr)
  | .styDp dd => (0x84, .sty, .dp dd)
  | .staDp dd => (0x85, .sta, .dp dd)
  | .stxDp dd => (0x86, .stx, .dp dd)
  | .staIldp dd => (0x87, .sta, .ildp dd)
  | .dey => (0x88, .dey, .imp)
  | .bitImmM8 v => (0x89, .bit, .immM8 v)
  | .bitImmM16 v => (0x89, .bit, .immM16 v)
  | .txa => (0x8A, .txa, .imp)
  | .phb => (0x8B, .phb, .stk)
  | .styAbs aa => (0x8C, .sty, .abs aa)
  | .staAbs aa => (0x8D, .sta, .abs aa)
  | .stxAbs aa => (0x8E, .stx, .abs aa)
  | .staLong al => (0x8F, .sta, .long al)
  | .bcc disp => (0x90, .bcc, .rel8 disp)
  | .staIdpy dd => (0x91, .sta, .idpy dd)
  | .staIdp dd => (0x92, .sta, .idp dd)
  | .staIsry sr => (0x93, .sta, .isry sr)
  | .styDpx dd => (0x94, .sty, .dpx dd)
  | .staDpx dd => (0x95, .sta, .dpx dd)
  | .stxDpy dd => (0x96, .stx, .dpy dd)
  | .staIldpy dd => (0x97, .sta, .ildpy dd)
  | .tya => (0x98, .tya, .imp)
  | .staAbsy aa => (0x99, .sta, .absy aa)
  | .txs => (0x9A, .txs, .imp)
  | .txy => (0x9B, .txy, .imp)
  | .stzAbs aa => (0x9C, .stz, .abs aa)
  | .staAbsx aa => (0x9D, .sta, .absx aa)
  | .stzAbsx aa => (0x9E, .stz, .absx aa)
  | .staLongx al => (0x9F, .sta, .longx al)
  | .ldyImmX8 v => (0xA0, .ldy, .immX8 v)
  | .ldyImmX16 v => (0xA0, .ldy, .immX16 v)
  | .ldaIdpx dd => (0xA1, .lda, .idpx dd)
  | .ldxImmX8 v => (0xA2, .ldx, .immX8 v)
  | .ldxImmX16 v => (0xA2, .ldx, .immX16 v)
  | .ldaSr sr => (0xA3, .lda, .sr sr)
  | .ldyDp dd => (0xA4, .ldy, .dp dd)
  | .ldaDp dd => (0xA5, .lda, .dp dd)
  | .ldxDp dd => (0xA6, .ldx, .dp dd)
  | .ldaIldp dd => (0xA7, .lda, .ildp dd)
  | .tay => (0xA8, .tay, .imp)
  | .ldaImmM8 v => (0xA9, .lda, .immM8 v)
  | .ldaImmM16 v => (0xA9, .lda, .immM16 v)
  | .tax => (0xAA, .tax, .imp)
  | .plb => (0xAB, .plb, .stk)
  | .ldyAbs aa => (0xAC, .ldy, .abs aa)
  | .ldaAbs aa => (0xAD, .lda, .abs aa)
  | .ldxAbs aa => (0xAE, .ldx, .abs aa)
  | .ldaLong al => (0xAF, .lda, .long al)
  | .bcs disp => (0xB0, .bcs, .rel8 disp)
  | .ldaIdpy dd => (0xB1, .lda, .idpy dd)
  | .ldaIdp dd => (0xB2, .lda, .idp dd)
  | .ldaIsry sr => (0xB3, .lda, .isry sr)
  | .ldyDpx dd => (0xB4, .ldy, .dpx dd)
  | .ldaDpx dd => (0xB5, .lda, .dpx dd)
  | .ldxDpy dd => (0xB6, .ldx, .dpy dd)
  | .ldaIldpy dd => (0xB7, .lda, .ildpy dd)
  | .clv => (0xB8, .clv, .imp)
  | .ldaAbsy aa => (0xB9, .lda, .absy aa)
  | .tsx => (0xBA, .tsx, .imp)
  | .tyx => (0xBB, .tyx, .imp)
  | .ldyAbsx aa => (0xBC, .ldy, .absx aa)
  | .ldaAbsx aa => (0xBD, .lda, .absx aa)
  | .ldxAbsy aa => (0xBE, .ldx, .absy aa)
  | .ldaLongx al => (0xBF, .lda, .longx al)
  | .cpyImmX8 v => (0xC0, .cpy, .immX8 v)
  | .cpyImmX16 v => (0xC0, .cpy, .immX16 v)
  | .cmpIdpx dd => (0xC1, .cmp, .idpx dd)
  | .rep k => (0xC2, .rep, .imm8 k)
  | .cmpSr sr => (0xC3, .cmp, .sr sr)
  | .cpyDp dd => (0xC4, .cpy, .dp dd)
  | .cmpDp dd => (0xC5, .cmp, .dp dd)
  | .decDp dd => (0xC6, .dec, .dp dd)
  | .cmpIldp dd => (0xC7, .cmp, .ildp dd)
  | .iny => (0xC8, .iny, .imp)
  | .cmpImmM8 v => (0xC9, .cmp, .immM8 v)
  | .cmpImmM16 v => (0xC9, .cmp, .immM16 v)
  | .dex => (0xCA, .dex, .imp)
  | .wai => (0xCB, .wai, .imp)
  | .cpyAbs aa => (0xCC, .cpy, .abs aa)
  | .cmpAbs aa => (0xCD, .cmp, .abs aa)
  | .decAbs aa => (0xCE, .dec, .abs aa)
  | .cmpLong al => (0xCF, .cmp, .long al)
  | .bne disp => (0xD0, .bne, .rel8 disp)
  | .cmpIdpy dd => (0xD1, .cmp, .idpy dd)
  | .cmpIdp dd => (0xD2, .cmp, .idp dd)
  | .cmpIsry sr => (0xD3, .cmp, .isry sr)
  | .pei dd => (0xD4, .pei, .idp dd)
  | .cmpDpx dd => (0xD5, .cmp, .dpx dd)
  | .decDpx dd => (0xD6, .dec, .dpx dd)
  | .cmpIldpy dd => (0xD7, .cmp, .ildpy dd)
  | .cld => (0xD8, .cld, .imp)
  | .cmpAbsy aa => (0xD9, .cmp, .absy aa)
  | .phx => (0xDA, .phx, .stk)
  | .stp => (0xDB, .stp, .imp)
  | .jmlIlabs aa => (0xDC, .jml, .ilabs aa)
  | .cmpAbsx aa => (0xDD, .cmp, .absx aa)
  | .decAbsx aa => (0xDE, .dec, .absx aa)
  | .cmpLongx al => (0xDF, .cmp, .longx al)
  | .cpxImmX8 v => (0xE0, .cpx, .immX8 v)
  | .cpxImmX16 v => (0xE0, .cpx, .immX16 v)
  | .sbcIdpx dd => (0xE1, .sbc, .idpx dd)
  | .sep k => (0xE2, .sep, .imm8 k)
  | .sbcSr sr => (0xE3, .sbc, .sr sr)
  | .cpxDp dd => (0xE4, .cpx, .dp dd)
  | .sbcDp dd => (0xE5, .sbc, .dp dd)
  | .incDp dd => (0xE6, .inc, .dp dd)
  | .sbcIldp dd => (0xE7, .sbc, .ildp dd)
  | .inx => (0xE8, .inx, .imp)
  | .sbcImmM8 v => (0xE9, .sbc, .immM8 v)
  | .sbcImmM16 v => (0xE9, .sbc, .immM16 v)
  | .nop => (0xEA, .nop, .imp)
  | .xba => (0xEB, .xba, .imp)
  | .cpxAbs aa => (0xEC, .cpx, .abs aa)
  | .sbcAbs aa => (0xED, .sbc, .abs aa)
  | .incAbs aa => (0xEE, .inc, .abs aa)
  | .sbcLong al => (0xEF, .sbc, .long al)
  | .beq disp => (0xF0, .beq, .rel8 disp)
  | .sbcIdpy dd => (0xF1, .sbc, .idpy dd)
  | .sbcIdp dd => (0xF2, .sbc, .idp dd)
  | .sbcIsry sr => (0xF3, .sbc, .isry sr)
  | .pea v => (0xF4, .pea, .imm16 v)
  | .sbcDpx dd => (0xF5, .sbc, .dpx dd)
  | .incDpx dd => (0xF6, .inc, .dpx dd)
  | .sbcIldpy dd => (0xF7, .sbc, .ildpy dd)
  | .sed => (0xF8, .sed, .imp)
  | .sbcAbsy aa => (0xF9, .sbc, .absy aa)
  | .plx => (0xFA, .plx, .stk)
  | .xce => (0xFB, .xce, .imp)
  | .jsrIabsx aa => (0xFC, .jsr, .iabsx aa)
  | .sbcAbsx aa => (0xFD, .sbc, .absx aa)
  | .incAbsx aa => (0xFE, .inc, .absx aa)
  | .sbcLongx al => (0xFF, .sbc, .longx al)

/-- The opcode byte (R90). -/
def Instr.opcode (i : Instr) : Byte := i.row.1

/-- The mnemonic (R18). -/
def Instr.mnemonic (i : Instr) : Mnemonic := i.row.2.1

/-- The operand, by addressing mode (R101). -/
def Instr.operand (i : Instr) : Operand := i.row.2.2

end Sys2Proof
end

