-- ==== Sys2Proof/WellFormed.lean ====
section
/-! DEFINITION. Which instructions can stand in an instruction stream under given width flags: the twelve
width-dependent immediates have one row per flag value (R93, R94), and only the row of the live flag can be fetched.
Every other operand is a whole field of its own width (R91), so nothing else can be ill formed. -/

namespace Sys2Proof

/-- R93, R94: the operand is one that the live flags `m` and `x` (true is 1, the 8-bit width) select. -/
def Operand.selected (m x : Bool) : Operand → Bool
  | .immM8 _ => m
  | .immM16 _ => !m
  | .immX8 _ => x
  | .immX16 _ => !x
  | .imp | .stk | .acc => true
  | .imm8 _ | .imm16 _ | .sig _ => true
  | .dp _ | .dpx _ | .dpy _ | .idp _ | .idpx _ | .idpy _ | .ildp _ | .ildpy _ => true
  | .sr _ | .isry _ => true
  | .rel8 _ | .rel16 _ => true
  | .abs _ | .absx _ | .absy _ | .pabs _ | .iabs _ | .iabsx _ | .ilabs _ => true
  | .long _ | .longx _ | .plong _ => true
  | .move _ _ => true

/-- An instruction is well formed under the flags `m` and `x` when the table they select holds its row (R94). -/
def Instr.wellFormed (m x : Bool) (i : Instr) : Bool := i.operand.selected m x

end Sys2Proof
end

