-- ==== Sys2Proof/Decode.lean ====
section
/-! DEFINITION. The decoder and the encoder (R90 to R97): the byte helpers, the 16 by 16 opcode matrix of R100 with the
format of each cell (R91), the three-table selection by the live flags (R94), the decoder over a list of bytes, the encoder
written from the rows of `Instr.row`, and the host's entry `decodeTableWord`. -/

namespace Sys2Proof

/-- The low byte, bits 7:0 (R5). -/
def lo (v : Word) : Byte := v.setWidth 8

/-- The high byte, bits 15:8 (R5). -/
def hi (v : Word) : Byte := (v >>> 8).setWidth 8

/-- R62: the 16-bit value of two bytes, `low | high << 8`. -/
def word (low high : Byte) : Word := high ++ low

/-- R5: the 24-bit address `bank:off`. -/
def addr (bank : Byte) (off : Word) : Addr := bank ++ off

/-- The bank byte of an address, bits 23:16 (R5). -/
def bankOf (a : Addr) : Byte := (a >>> 16).setWidth 8

/-- The offset of an address, bits 15:0 (R5). -/
def offOf (a : Addr) : Word := a.setWidth 16

/-- One cell of the opcode table, by the format of its row (R91). A cell of format F2M or F2X holds both its row for the
8-bit width and its row for the 16-bit width (R93). -/
inductive Entry where
  /-- F1: the opcode alone. -/
  | f1 (i : Instr)
  /-- F2: one operand byte. -/
  | f2 (mk : Byte → Instr)
  /-- F2M: an immediate of one byte when `m = 1`, of two when `m = 0`. -/
  | f2m (mk8 : Byte → Instr) (mk16 : Word → Instr)
  /-- F2X: an immediate of one byte when `x = 1`, of two when `x = 0`. -/
  | f2x (mk8 : Byte → Instr) (mk16 : Word → Instr)
  /-- F3: a 16-bit field, low byte first. -/
  | f3 (mk : Word → Instr)
  /-- F3B: destination bank, then source bank. -/
  | f3b (mk : Byte → Byte → Instr)
  /-- F4: a 24-bit field, low byte, high byte, bank byte. -/
  | f4 (mk : Addr → Instr)

/-- The opcode matrix of R100, one list per high nibble, one cell per low nibble. -/
def opRow : Nat → List Entry
  | 0x0 => [.f2 .brk, .f2 .oraIdpx, .f2 .cop, .f2 .oraSr, .f2 .tsbDp, .f2 .oraDp, .f2 .aslDp, .f2 .oraIldp,
      .f1 .php, .f2m .oraImmM8 .oraImmM16, .f1 .aslAcc, .f1 .phd, .f3 .tsbAbs, .f3 .oraAbs, .f3 .aslAbs,
      .f4 .oraLong]
  | 0x1 => [.f2 .bpl, .f2 .oraIdpy, .f2 .oraIdp, .f2 .oraIsry, .f2 .trbDp, .f2 .oraDpx, .f2 .aslDpx, .f2 .oraIldpy,
      .f1 .clc, .f3 .oraAbsy, .f1 .incAcc, .f1 .tcs, .f3 .trbAbs, .f3 .oraAbsx, .f3 .aslAbsx, .f4 .oraLongx]
  | 0x2 => [.f3 .jsrPabs, .f2 .andIdpx, .f4 .jsl, .f2 .andSr, .f2 .bitDp, .f2 .andDp, .f2 .rolDp, .f2 .andIldp,
      .f1 .plp, .f2m .andImmM8 .andImmM16, .f1 .rolAcc, .f1 .pld, .f3 .bitAbs, .f3 .andAbs, .f3 .rolAbs,
      .f4 .andLong]
  | 0x3 => [.f2 .bmi, .f2 .andIdpy, .f2 .andIdp, .f2 .andIsry, .f2 .bitDpx, .f2 .andDpx, .f2 .rolDpx,
      .f2 .andIldpy, .f1 .sec, .f3 .andAbsy, .f1 .decAcc, .f1 .tsc, .f3 .bitAbsx, .f3 .andAbsx, .f3 .rolAbsx,
      .f4 .andLongx]
  | 0x4 => [.f1 .rti, .f2 .eorIdpx, .f2 .wdm, .f2 .eorSr, .f3b .mvp, .f2 .eorDp, .f2 .lsrDp, .f2 .eorIldp,
      .f1 .pha, .f2m .eorImmM8 .eorImmM16, .f1 .lsrAcc, .f1 .phk, .f3 .jmpPabs, .f3 .eorAbs, .f3 .lsrAbs,
      .f4 .eorLong]
  | 0x5 => [.f2 .bvc, .f2 .eorIdpy, .f2 .eorIdp, .f2 .eorIsry, .f3b .mvn, .f2 .eorDpx, .f2 .lsrDpx, .f2 .eorIldpy,
      .f1 .cli, .f3 .eorAbsy, .f1 .phy, .f1 .tcd, .f4 .jmlPlong, .f3 .eorAbsx, .f3 .lsrAbsx, .f4 .eorLongx]
  | 0x6 => [.f1 .rts, .f2 .adcIdpx, .f3 .per, .f2 .adcSr, .f2 .stzDp, .f2 .adcDp, .f2 .rorDp, .f2 .adcIldp,
      .f1 .pla, .f2m .adcImmM8 .adcImmM16, .f1 .rorAcc, .f1 .rtl, .f3 .jmpIabs, .f3 .adcAbs, .f3 .rorAbs,
      .f4 .adcLong]
  | 0x7 => [.f2 .bvs, .f2 .adcIdpy, .f2 .adcIdp, .f2 .adcIsry, .f2 .stzDpx, .f2 .adcDpx, .f2 .rorDpx,
      .f2 .adcIldpy, .f1 .sei, .f3 .adcAbsy, .f1 .ply, .f1 .tdc, .f3 .jmpIabsx, .f3 .adcAbsx, .f3 .rorAbsx,
      .f4 .adcLongx]
  | 0x8 => [.f2 .bra, .f2 .staIdpx, .f3 .brl, .f2 .staSr, .f2 .styDp, .f2 .staDp, .f2 .stxDp, .f2 .staIldp,
      .f1 .dey, .f2m .bitImmM8 .bitImmM16, .f1 .txa, .f1 .phb, .f3 .styAbs, .f3 .staAbs, .f3 .stxAbs, .f4 .staLong]
  | 0x9 => [.f2 .bcc, .f2 .staIdpy, .f2 .staIdp, .f2 .staIsry, .f2 .styDpx, .f2 .staDpx, .f2 .stxDpy,
      .f2 .staIldpy, .f1 .tya, .f3 .staAbsy, .f1 .txs, .f1 .txy, .f3 .stzAbs, .f3 .staAbsx, .f3 .stzAbsx,
      .f4 .staLongx]
  | 0xA => [.f2x .ldyImmX8 .ldyImmX16, .f2 .ldaIdpx, .f2x .ldxImmX8 .ldxImmX16, .f2 .ldaSr, .f2 .ldyDp, .f2 .ldaDp,
      .f2 .ldxDp, .f2 .ldaIldp, .f1 .tay, .f2m .ldaImmM8 .ldaImmM16, .f1 .tax, .f1 .plb, .f3 .ldyAbs, .f3 .ldaAbs,
      .f3 .ldxAbs, .f4 .ldaLong]
  | 0xB => [.f2 .bcs, .f2 .ldaIdpy, .f2 .ldaIdp, .f2 .ldaIsry, .f2 .ldyDpx, .f2 .ldaDpx, .f2 .ldxDpy,
      .f2 .ldaIldpy, .f1 .clv, .f3 .ldaAbsy, .f1 .tsx, .f1 .tyx, .f3 .ldyAbsx, .f3 .ldaAbsx, .f3 .ldxAbsy,
      .f4 .ldaLongx]
  | 0xC => [.f2x .cpyImmX8 .cpyImmX16, .f2 .cmpIdpx, .f2 .rep, .f2 .cmpSr, .f2 .cpyDp, .f2 .cmpDp, .f2 .decDp,
      .f2 .cmpIldp, .f1 .iny, .f2m .cmpImmM8 .cmpImmM16, .f1 .dex, .f1 .wai, .f3 .cpyAbs, .f3 .cmpAbs, .f3 .decAbs,
      .f4 .cmpLong]
  | 0xD => [.f2 .bne, .f2 .cmpIdpy, .f2 .cmpIdp, .f2 .cmpIsry, .f2 .pei, .f2 .cmpDpx, .f2 .decDpx, .f2 .cmpIldpy,
      .f1 .cld, .f3 .cmpAbsy, .f1 .phx, .f1 .stp, .f3 .jmlIlabs, .f3 .cmpAbsx, .f3 .decAbsx, .f4 .cmpLongx]
  | 0xE => [.f2x .cpxImmX8 .cpxImmX16, .f2 .sbcIdpx, .f2 .sep, .f2 .sbcSr, .f2 .cpxDp, .f2 .sbcDp, .f2 .incDp,
      .f2 .sbcIldp, .f1 .inx, .f2m .sbcImmM8 .sbcImmM16, .f1 .nop, .f1 .xba, .f3 .cpxAbs, .f3 .sbcAbs, .f3 .incAbs,
      .f4 .sbcLong]
  | 0xF => [.f2 .beq, .f2 .sbcIdpy, .f2 .sbcIdp, .f2 .sbcIsry, .f3 .pea, .f2 .sbcDpx, .f2 .incDpx, .f2 .sbcIldpy,
      .f1 .sed, .f3 .sbcAbsy, .f1 .plx, .f1 .xce, .f3 .jsrIabsx, .f3 .sbcAbsx, .f3 .incAbsx, .f4 .sbcLongx]
  | _ => []

/-- The cell of an opcode byte; every byte has one (R97). -/
def entryOf (op : Byte) : Option Entry := (opRow (op.toNat / 16))[op.toNat % 16]?

/-- R93: the opcodes whose immediate follows `m`. -/
def mimm : List Byte := [0x09, 0x29, 0x49, 0x69, 0x89, 0xA9, 0xC9, 0xE9]

/-- R93: the opcodes whose immediate follows `x`. -/
def ximm : List Byte := [0xA0, 0xA2, 0xC0, 0xE0]

/-- Why the decoder answers no instruction. It rejects no byte value (R97); the bytes can only run out. -/
inductive DecodeError where
  /-- No opcode byte. -/
  | noOpcode
  /-- Fewer operand bytes than the format of the opcode needs. -/
  | truncated (op : Byte)
  /-- The matrix has no cell for the byte. No byte is rejected so (R97); the name keeps the decoder total by form. -/
  | noEntry (op : Byte)
  deriving DecidableEq, Repr

/-- R92: one instruction of a cell from the bytes after the opcode, under the live flags (R94), with the bytes left. -/
def decodeEntry (m x : Bool) (op : Byte) : Entry → List Byte → Except DecodeError (Instr × List Byte)
  | .f1 i, rest => .ok (i, rest)
  | .f2 mk, b1 :: rest => .ok (mk b1, rest)
  | .f2m mk8 mk16, bytes => decodeImm (if m then .w8 else .w16) mk8 mk16 bytes
  | .f2x mk8 mk16, bytes => decodeImm (if x then .w8 else .w16) mk8 mk16 bytes
  | .f3 mk, b1 :: b2 :: rest => .ok (mk (word b1 b2), rest)
  | .f3b mk, b1 :: b2 :: rest => .ok (mk b1 b2, rest)
  | .f4 mk, b1 :: b2 :: b3 :: rest => .ok (mk (addr b3 (word b1 b2)), rest)
  | .f2 _, _ => .error (.truncated op)
  | .f3 _, _ => .error (.truncated op)
  | .f3b _, _ => .error (.truncated op)
  | .f4 _, _ => .error (.truncated op)
where
  /-- R93: the immediate of the width the governing flag gives. -/
  decodeImm (w : Width) (mk8 : Byte → Instr) (mk16 : Word → Instr) : List Byte → Except DecodeError (Instr × List Byte)
    | bytes =>
      match w, bytes with
      | .w8, b1 :: rest => .ok (mk8 b1, rest)
      | .w16, b1 :: b2 :: rest => .ok (mk16 (word b1 b2), rest)
      | _, _ => .error (.truncated op)

/-- The decoder over a list of bytes: the instruction at the head and the bytes after it, under the flags `m` and `x` that are
live at fetch time (R90, R94, R95). -/
def decode (m x : Bool) : List Byte → Except DecodeError (Instr × List Byte)
  | [] => .error .noOpcode
  | op :: rest =>
    match entryOf op with
    | none => .error (.noEntry op)
    | some e => decodeEntry m x op e rest

/-- R91, R92: the operand bytes of an instruction, in memory order. -/
def Operand.bytes : Operand → List Byte
  | .imp | .stk | .acc => []
  | .immM8 v | .immX8 v | .imm8 v | .sig v => [v]
  | .dp v | .dpx v | .dpy v | .idp v | .idpx v | .idpy v | .ildp v | .ildpy v => [v]
  | .sr v | .isry v | .rel8 v => [v]
  | .immM16 v | .immX16 v | .imm16 v | .rel16 v => [lo v, hi v]
  | .abs v | .absx v | .absy v | .pabs v | .iabs v | .iabsx v | .ilabs v => [lo v, hi v]
  | .long v | .longx v | .plong v => [lo (offOf v), hi (offOf v), bankOf v]
  | .move dst src => [dst, src]

/-- R90: the length in bytes, opcode included. -/
def Instr.length (i : Instr) : Nat := 1 + i.operand.bytes.length

/-- The encoder: the bytes of an instruction, opcode first (R90, R91). -/
def encode (i : Instr) : List Byte := i.opcode :: i.operand.bytes

/-- The four bytes of a table word: bit 0 of `w` is the least significant bit of the first byte; the bits from `nbits`
up are 0. -/
def tableBytes (nbits w : Nat) : List Byte :=
  let v := w % 2 ^ nbits
  [BitVec.ofNat 8 v, BitVec.ofNat 8 (v / 2 ^ 8), BitVec.ofNat 8 (v / 2 ^ 16), BitVec.ofNat 8 (v / 2 ^ 24)]

/-- The value of the governing flag under which a width-dependent immediate has `nbits` bits: 1 (the 8-bit row) up to two
bytes, 0 (the 16-bit row) for three (R93). -/
def tableFlag (nbits : Nat) : Bool := decide (nbits ≤ 16)

/-- The instruction the decoder reads from a table word. -/
def decodeTableWord (nbits w : Nat) : Option Instr :=
  match decode (tableFlag nbits) (tableFlag nbits) (tableBytes nbits w) with
  | .ok (i, _) => some i
  | .error _ => none

end Sys2Proof
end

