-- ==== Sys2Proof/Machine/State.lean ====
section
/-! DEFINITION. The state of the block, exactly the twelve items of R20 ("and nothing else"; R46: no hidden state), the
reasons a step can stop, and the state after reset (R48). -/

namespace Sys2Proof.Machine

/-- The memory `M` (R44, R60): the cells that differ from `Config.memInit`, as (address, byte) pairs with strictly rising
addresses below 2^24. -/
abbrev Memory := List Host.Cell

/-- The canonical form from the address `least` up: rising addresses, each below 2^24, no cell equal to what an unlisted
address reads as. -/
def Memory.wfFrom : Nat → Memory → Bool
  | _, [] => true
  | least, (a, v) :: rest =>
    decide (least ≤ a) && decide (a < 2 ^ 24) && decide (v ≠ Config.memInit) && Memory.wfFrom (a + 1) rest

/-- The canonical form: equal memories are equal lists. -/
def Memory.wf (m : Memory) : Bool := Memory.wfFrom 0 m

/-- The state of the block (R20). -/
structure State where
  /-- `C`: the accumulator; `A` is its low byte, `B` its high byte (R21). -/
  c : Word
  /-- `X`: the index register X (R23). -/
  x : Word
  /-- `Y`: the index register Y (R23). -/
  y : Word
  /-- `S`: the stack pointer, an offset in bank 0x00 (R25). -/
  sp : Word
  /-- `D`: the direct-page register (R26). -/
  d : Word
  /-- `DBR`: the data-bank register (R27). -/
  dbr : Byte
  /-- `PBR`: the program-bank register (R28). -/
  pbr : Byte
  /-- `PC`: the program counter, an offset in bank `PBR` (R29). -/
  pc : Word
  /-- `P`: the status byte n v m x d i z c, bit 7 down to bit 0 (R30). -/
  p : Byte
  /-- `E`: the emulation bit, no part of `P` (R31). -/
  e : Bool
  /-- `M`: the memory (R44). -/
  mem : Memory
  /-- `CYC`: the cumulative cycle accumulator (R45, R368). -/
  cyc : CycleCount
  deriving DecidableEq, Repr

/-- Why the machine stops with a fault. -/
inductive Fault where
  /-- `UnimplementedInstruction(op)`, the one error of the block (R9, R381): raised by the step for an opcode in `UNIMPL`
  and by the meanings of WAI and STP. Nothing of the state is changed. Safe: it is the spec's own outcome. -/
  | unimplementedInstruction (op : Byte)
  deriving DecidableEq, Repr

/-- Why an instruction has no next state. -/
inductive Refusal where
  /-- Raised by an arm of `exec` whose instruction has no meaning yet. Safe. -/
  | notModelled (mnemonic : String)
  /-- Raised by `State.locWrite` for a write to an immediate operand (R42: "A model should make it a refusal"). No row of
  R100 pairs the two, so no instruction raises it. Safe. -/
  | writeToImmediate
  /-- Raised by `execEntry` for an entry of an `OPTABLE` (R4) that binds an operator to a mode which forms no operand of the kind
  it takes (R120, R363), such as AND to an implied mode. The spec gives such a pair no effect (log entry 13). No row of R100
  is one, so no instruction of `exec` raises it. Safe. -/
  | operandMismatch (mnemonic : Mnemonic) (operand : Operand)
  /-- Raised by `step` if the decoder answers no instruction for the fetched bytes. R97 says every byte value has an entry
  and the step fetches four bytes, so no step raises it. Safe. -/
  | undecodedBytes (e : DecodeError)
  deriving DecidableEq, Repr

/-- The three ways an instruction ends. -/
abbrev Outcome := Host.Outcome State Fault Refusal

/-- R48: the state after `reset` with nothing placed in memory. `E`, `m`, `x`, `i`, `d`, `D`, `DBR`, `PBR`, `CYC`, the high
bytes of X, Y and S are the spec's; `PC` is the contents of the reset vector, both bytes of it being `Config.memInit`; the
rest are the launch values of Config.lean (log entries 1 and 2). -/
def State.reset : State where
  c := Config.resetC
  x := word Config.resetXL 0x00
  y := word Config.resetYL 0x00
  sp := word Config.resetSL 0x01
  d := 0x0000
  dbr := 0x00
  pbr := 0x00
  pc := word Config.memInit Config.memInit
  p := BitVec.ofBool Config.resetN ++ BitVec.ofBool Config.resetV ++ 1#1 ++ 1#1 ++ 0#1 ++ 1#1
    ++ BitVec.ofBool Config.resetZ ++ BitVec.ofBool Config.resetCarry
  e := true
  mem := []
  cyc := 0

end Sys2Proof.Machine
end

