-- ==== Sys2Proof/Machine/Params.lean ====
section
/-! DEFINITION. The defaults of the open parameters of R4, which the spec uses in every rule, vector and program
(92_eei_decisions.md, "Open parameters, in one place"). Machine/Parameters.lean gathers them into the argument that the
functions of the machine take. -/

namespace Sys2Proof.Machine.Params

/-- `DP_E_WRAP` (R66, D7): the page wrap of direct-page addresses in emulation mode with `DL` = 0. -/
def dpEWrap : Bool := true

/-- `INDEX_CROSSES_BANK` (R61, R83, D6): whether in-bank indexed data addresses carry into the bank byte. -/
def indexCrossesBank : Bool := false

/-- `UNIMPL` (R381, D17): the opcodes whose semantics are not coded: the default, and what every `UNIMPL` holds (R345,
R346). -/
def unimpl : List Byte := [0xCB, 0xDB]

/-- `VEC_BRK_N` (R384, D19). -/
def vecBrkN : Addr := 0x00FFE6

/-- `VEC_BRK_E` (R384, D19). -/
def vecBrkE : Addr := 0x00FFFE

/-- `VEC_COP_N` (R384, D19). -/
def vecCopN : Addr := 0x00FFE4

/-- `VEC_COP_E` (R384, D19). -/
def vecCopE : Addr := 0x00FFF4

/-- `VEC_RESET` (R410, D20). -/
def vecReset : Addr := 0x00FFFC

/-- The three modes that a page crossing can cost a cycle (R123). -/
inductive PageMode where
  | absx
  | absy
  | idpy
  deriving DecidableEq, Repr

/-- R123: the operators that only read their operand. -/
def pageReaders : List Mnemonic := [.ora, .and, .eor, .adc, .lda, .cmp, .sbc, .bit, .ldx, .ldy]

/-- `PagePenalty(op, mode, x, crossed)` (R123, D10): the default ignores the mode and the width flag. -/
def pagePenalty (op : Mnemonic) (_mode : PageMode) (_x : Bool) (crossed : Bool) : Bool :=
  crossed && pageReaders.contains op

end Sys2Proof.Machine.Params
end

