-- ==== Sys2Proof/Machine/Cycles.lean ====
section
/-! DEFINITION. The base cycle counts, parameter `BASE_CYCLES` (R4, R425): one number per opcode byte, laid out as the
opcode matrix of R100. -/

namespace Sys2Proof.Machine

/-- The column "cyc" of R425, one list per high nibble. -/
def cycleRow : Nat → List Nat
  | 0x0 => [7, 6, 7, 4, 5, 3, 5, 6, 3, 2, 2, 4, 6, 4, 6, 5]
  | 0x1 => [2, 5, 5, 7, 5, 4, 6, 6, 2, 4, 2, 2, 6, 4, 7, 5]
  | 0x2 => [6, 6, 8, 4, 3, 3, 5, 6, 4, 2, 2, 5, 4, 4, 6, 5]
  | 0x3 => [2, 5, 5, 7, 4, 4, 6, 6, 2, 4, 2, 2, 4, 4, 7, 5]
  | 0x4 => [6, 6, 2, 4, 7, 3, 5, 6, 3, 2, 2, 3, 3, 4, 6, 5]
  | 0x5 => [2, 5, 5, 7, 7, 4, 6, 6, 2, 4, 3, 2, 4, 4, 7, 5]
  | 0x6 => [6, 6, 6, 4, 3, 3, 5, 6, 4, 2, 2, 6, 5, 4, 6, 5]
  | 0x7 => [2, 5, 5, 7, 4, 4, 6, 6, 2, 4, 4, 2, 6, 4, 7, 5]
  | 0x8 => [2, 6, 4, 4, 3, 3, 3, 6, 2, 2, 2, 3, 4, 4, 4, 5]
  | 0x9 => [2, 6, 5, 7, 4, 4, 4, 6, 2, 5, 2, 2, 4, 5, 5, 5]
  | 0xA => [2, 6, 2, 4, 3, 3, 3, 6, 2, 2, 2, 4, 4, 4, 4, 5]
  | 0xB => [2, 5, 5, 7, 4, 4, 4, 6, 2, 4, 2, 2, 4, 4, 4, 5]
  | 0xC => [2, 6, 3, 4, 3, 3, 5, 6, 2, 2, 2, 3, 4, 4, 6, 5]
  | 0xD => [2, 5, 5, 7, 6, 4, 6, 6, 2, 4, 3, 3, 6, 4, 7, 5]
  | 0xE => [2, 6, 3, 4, 3, 3, 5, 6, 2, 2, 2, 3, 4, 4, 6, 5]
  | 0xF => [2, 5, 5, 7, 5, 4, 6, 6, 2, 4, 4, 2, 8, 4, 7, 5]
  | _ => []

/-- R364, R425: the base cycle count of the table entry. -/
def baseCycles (op : Byte) : Nat := (cycleRow (op.toNat / 16)).getD (op.toNat % 16) 0

end Sys2Proof.Machine
end

