-- ==== Sys2Proof/Machine/Ops.lean ====
section
/-! DEFINITION. The named operations over memory and registers: the cells (R44), the multi-byte accesses (R62 to R65), the
status bits (R30), the register ports and setters with the invariants they keep (R33 to R38), the stack (R68 to R70), the
program counter and the cycle count of a step (R361, R368), taking a trap and returning from one (R387, R389). -/

namespace Sys2Proof.Machine

/-! ## The cells -/

/-- R44: the byte at an address; a cell that nothing has written reads as `Config.memInit`. -/
def memRead : Memory → Nat → Byte
  | [], _ => Config.memInit
  | (k, v) :: rest, a => if a = k then v else memRead rest a

/-- The memory without the entry of one address. -/
def memErase (m : Memory) (a : Nat) : Memory := m.filter fun cell => cell.1 ≠ a

/-- The memory with one entry more, at its place among rising addresses. -/
def memInsert : Memory → Nat → Byte → Memory
  | [], a, v => [(a, v)]
  | (k, u) :: rest, a, v => if a < k then (a, v) :: (k, u) :: rest else (k, u) :: memInsert rest a v

/-- R44: the memory after a write; an entry equal to what an unlisted address reads as is not kept. -/
def memWrite (m : Memory) (a : Nat) (v : Byte) : Memory :=
  if v = Config.memInit then memErase m a else memInsert (memErase m a) a v

/-- `M[a]` (R60). -/
def State.readMem (s : State) (a : Addr) : Byte := memRead s.mem a.toNat

/-- `M[a] <- v` (R60, R73). -/
def State.writeMem (s : State) (a : Addr) (v : Byte) : State := { s with mem := memWrite s.mem a.toNat v }

/-! ## Multi-byte accesses -/

/-- R63: the addresses of `n` bytes from `a` on, linear in 24 bits. -/
def linearAddrs (a : Addr) : Nat → List Addr
  | 0 => []
  | n + 1 => a :: linearAddrs (a + 1) n

/-- R65: the addresses of `n` bytes from `bank:off` on, inside the bank. -/
def bankAddrs (bank : Byte) (off : Word) : Nat → List Addr
  | 0 => []
  | n + 1 => addr bank off :: bankAddrs bank (off + 1) n

/-- R62, R64: the little-endian value of the bytes at a list of addresses. -/
def State.readBytes (s : State) : List Addr → Nat
  | [] => 0
  | a :: rest => (s.readMem a).toNat + 256 * s.readBytes rest

/-- R62, R64: a value written low byte first to a list of addresses. -/
def State.writeBytes (s : State) : List Addr → Nat → State
  | [], _ => s
  | a :: rest, v => (s.writeMem a (BitVec.ofNat 8 v)).writeBytes rest (v / 256)

/-- R63 `MemRead`. -/
def State.readLinear (s : State) (a : Addr) (n : Nat) : Nat := s.readBytes (linearAddrs a n)

/-- R65 `MemReadBank`. -/
def State.readBank (s : State) (bank : Byte) (off : Word) (n : Nat) : Nat := s.readBytes (bankAddrs bank off n)

/-- R63 `MemWrite`. -/
def State.writeLinear (s : State) (a : Addr) (n v : Nat) : State := s.writeBytes (linearAddrs a n) v

/-- R65 `MemWriteBank`. -/
def State.writeBank (s : State) (bank : Byte) (off : Word) (n v : Nat) : State :=
  s.writeBytes (bankAddrs bank off n) v

/-! ## The status byte -/

/-- R30: the mask of flag n. -/
def maskN : Byte := 0x80
/-- R30: the mask of flag v. -/
def maskV : Byte := 0x40
/-- R30: the mask of flag m. -/
def maskM : Byte := 0x20
/-- R30: the mask of flag x. -/
def maskX : Byte := 0x10
/-- R30: the mask of flag d. -/
def maskD : Byte := 0x08
/-- R30: the mask of flag i. -/
def maskI : Byte := 0x04
/-- R30: the mask of flag z. -/
def maskZ : Byte := 0x02
/-- R30: the mask of flag c. -/
def maskC : Byte := 0x01

/-- A status byte with the bits of a mask set or cleared. -/
def putFlag (p mask : Byte) (b : Bool) : Byte := if b then p ||| mask else p &&& ~~~mask

/-- `P.n` (R30). -/
def State.flagN (s : State) : Bool := s.p.getLsbD 7
/-- `P.v` (R30). -/
def State.flagV (s : State) : Bool := s.p.getLsbD 6
/-- `P.m` (R30). -/
def State.flagM (s : State) : Bool := s.p.getLsbD 5
/-- `P.x` (R30). -/
def State.flagX (s : State) : Bool := s.p.getLsbD 4
/-- `P.d` (R30). -/
def State.flagD (s : State) : Bool := s.p.getLsbD 3
/-- `P.i` (R30). -/
def State.flagI (s : State) : Bool := s.p.getLsbD 2
/-- `P.z` (R30). -/
def State.flagZ (s : State) : Bool := s.p.getLsbD 1
/-- `P.c` (R30). -/
def State.flagC (s : State) : Bool := s.p.getLsbD 0

/-- R33: a write of single flags, which no invariant mentions (n v d i z c). -/
def State.setFlag (s : State) (mask : Byte) (b : Bool) : State := { s with p := putFlag s.p mask b }

/-- R10 `WM`: the accumulator and memory width. -/
def State.wM (s : State) : Width := .ofFlag s.flagM

/-- R10 `WX`: the index-register width. -/
def State.wX (s : State) : Width := .ofFlag s.flagX

/-! ## Register ports and setters -/

/-- `v[w−1:0]`, zero-extended (R5, R7). -/
def truncTo (w : Width) (v : Word) : Word :=
  match w with
  | .w8 => word (lo v) 0x00
  | .w16 => v

/-- R5 `msb(w, v)`: bit `w − 1`. -/
def msbOf (w : Width) (v : Word) : Bool := v.getLsbD (w.bits - 1)

/-- R36 `ReadA(w)`. -/
def State.readA (s : State) (w : Width) : Word := truncTo w s.c

/-- R36 `SetA(w, v)`: a narrow write keeps `B`. -/
def State.setA (s : State) (w : Width) (v : Word) : State :=
  { s with c := match w with
      | .w8 => word (lo v) (hi s.c)
      | .w16 => v }

/-- R35 `ReadX(w)`. -/
def State.readX (s : State) (w : Width) : Word := truncTo w s.x

/-- R35 `ReadY(w)`. -/
def State.readY (s : State) (w : Width) : Word := truncTo w s.y

/-- R35 `SetX(w, v)`: a narrow write clears the high byte. -/
def State.setX (s : State) (w : Width) (v : Word) : State := { s with x := truncTo w v }

/-- R35 `SetY(w, v)`: a narrow write clears the high byte. -/
def State.setY (s : State) (w : Width) (v : Word) : State := { s with y := truncTo w v }

/-- R25: a stack-pointer value with its high byte forced to 0x01. -/
def pageOne (v : Word) : Word := word (lo v) 0x01

/-- R34 `SetS(v)`. -/
def State.setS (s : State) (v : Word) : State := { s with sp := if s.e then pageOne v else v }

/-- `D <- v` (R26). -/
def State.setD (s : State) (v : Word) : State := { s with d := v }

/-- `DBR <- v` (R27). -/
def State.setDbr (s : State) (v : Byte) : State := { s with dbr := v }

/-- `PBR <- v` (R28). -/
def State.setPbr (s : State) (v : Byte) : State := { s with pbr := v }

/-- `PC <- v` (R29). -/
def State.setPc (s : State) (v : Word) : State := { s with pc := v }

/-- R32: the status byte with `m` and `x` forced to 1 when `E` is 1. -/
def forceWidths (e : Bool) (p : Byte) : Byte := if e then p ||| maskM ||| maskX else p

/-- R38 `Normalize()`: the `E` clause first, so that the `x` clause sees the forced value. -/
def State.normalize (s : State) : State :=
  let p := forceWidths s.e s.p
  { s with
    p := p
    sp := if s.e then pageOne s.sp else s.sp
    x := if p.getLsbD 4 then word (lo s.x) 0x00 else s.x
    y := if p.getLsbD 4 then word (lo s.y) 0x00 else s.y }

/-- R33 `SetP(v)`. -/
def State.setP (s : State) (v : Byte) : State := { s with p := v }.normalize

/-- R37 `SetE(b)`. -/
def State.setE (s : State) (b : Bool) : State := { s with e := b }.normalize

/-! ## The stack -/

/-- R68 `Push8`. -/
def State.push8 (s : State) (v : Byte) : State := (s.writeMem (addr 0x00 s.sp) v).setS (s.sp - 1)

/-- R68 `Push16`: the high byte first. -/
def State.push16 (s : State) (v : Word) : State := (s.push8 (hi v)).push8 (lo v)

/-- R68 `Push24`: the bank byte first. -/
def State.push24 (s : State) (v : Addr) : State := (s.push8 (bankOf v)).push16 (offOf v)

/-- The state after a pull of one byte: `S` has moved up (R69). -/
def State.pop8 (s : State) : State := s.setS (s.sp + 1)

/-- R69 `Pull8`: the byte, and the state with `S` moved. -/
def State.pull8 (s : State) : Byte × State := (s.pop8.readMem (addr 0x00 s.pop8.sp), s.pop8)

/-- R69 `Pull16`: the low byte first. -/
def State.pull16 (s : State) : Word × State :=
  let low := s.pull8
  let high := low.2.pull8
  (word low.1 high.1, high.2)

/-- R69 `Pull24`: low byte, high byte, bank byte. -/
def State.pull24 (s : State) : Addr × State :=
  let off := s.pull16
  let bank := off.2.pull8
  (addr bank.1 off.1, bank.2)

/-- A value of width `w` pushed (R290). -/
def State.pushW (s : State) (w : Width) (v : Word) : State :=
  match w with
  | .w8 => s.push8 (lo v)
  | .w16 => s.push16 v

/-- A value of width `w` pulled, zero-extended (R290, R298). -/
def State.pullW (s : State) (w : Width) : Word × State :=
  match w with
  | .w8 => (word s.pull8.1 0x00, s.pull8.2)
  | .w16 => s.pull16

/-! ## The program counter and the cycle count of a step -/

/-- R360: the default advance past an instruction of `len` bytes. -/
def State.advance (s : State) (len : Nat) : State := { s with pc := s.pc + BitVec.ofNat 16 len }

/-- R368: `CYC <- (CYC + cycles) mod 2^CYC_WIDTH` at the width of `State`, the default 64. -/
def State.addCycles (s : State) (cycles : Int) : State := { s with cyc := s.cyc + BitVec.ofInt 64 cycles }

/-! ## Traps -/

/-- The two bytes of a vector, read in bank 0x00 (R387 step 7). -/
def State.readVector (s : State) (vec : Addr) : Word := BitVec.ofNat 16 (s.readBank 0x00 (offOf vec) 2)

/-- R387, R269: taking a software interrupt, step by step: `PBR` (native mode), the return offset, `P` as it was; then
`i` set, `d` cleared, `PBR` cleared, and `PC` loaded from the vector of the mode. -/
def State.takeTrap (s : State) (vecN vecE : Addr) (ret : Word) : State :=
  let banked := if s.e then s else s.push8 s.pbr
  let pushed := (banked.push16 ret).push8 s.p
  let masked := ((pushed.setFlag maskI true).setFlag maskD false).setPbr 0x00
  masked.setPc (masked.readVector (if s.e then vecE else vecN))

/-- R389, R257: the return from a software interrupt: `P` (with the invariants restored), `PC`, and in native mode
`PBR`. -/
def State.returnFromTrap (s : State) : State :=
  let status := s.pull8
  let target := (status.2.setP status.1).pull16
  let resumed := target.2.setPc target.1
  if s.e then resumed else resumed.pull8.2.setPbr resumed.pull8.1

end Sys2Proof.Machine
end

