-- ==== Sys2Proof/Machine/Flags.lean ====
section
/-! DEFINITION. Every flag computation and the arithmetic it comes from: n and z of a result (R11), the binary sum and
difference with carry and overflow (R12, R13), the decimal sum and difference (R162, R164), the page-crossing test (R14). -/

namespace Sys2Proof.Machine

/-- R11 `SetNZ(w, r)`. -/
def State.setNZ (s : State) (w : Width) (r : Word) : State :=
  (s.setFlag maskN (msbOf w r)).setFlag maskZ (decide (truncTo w r = 0))

/-- What an adder answers: `(r, cout, vout)` (R12). -/
structure AluResult where
  value : Word
  carry : Bool
  overflow : Bool
  deriving DecidableEq, Repr

/-- R12: `((~(a ^ b)) & (a ^ r))[w−1]`: `a` and `b` have the same sign bit and `r` has the other. -/
def overflowBit (w : Width) (a b r : Nat) : Bool :=
  !(a.testBit (w.bits - 1) ^^ b.testBit (w.bits - 1)) && (a.testBit (w.bits - 1) ^^ r.testBit (w.bits - 1))

/-- R10 `mask(w)`. -/
def maskOf (w : Width) : Nat := 2 ^ w.bits - 1

/-- R12 `AddBin(w, a, b, cin)`: the exact sum, then narrowed. -/
def addBin (w : Width) (a b : Word) (cin : Bool) : AluResult :=
  let sum := a.toNat + b.toNat + cin.toNat
  let r := sum % 2 ^ w.bits
  { value := BitVec.ofNat 16 r
    carry := decide (2 ^ w.bits ≤ sum)
    overflow := overflowBit w a.toNat b.toNat r }

/-- `b ^ mask(w)`: the ones complement at width `w` (R13). -/
def complement (w : Width) (b : Word) : Word := b ^^^ BitVec.ofNat 16 (maskOf w)

/-- R13 `SubBin(w, a, b, cin)`; `cin` is "not borrow". -/
def subBin (w : Width) (a b : Word) (cin : Bool) : AluResult := addBin w a (complement w b) cin

/-- R11, R12: the flags n, v, z, c that an adder's answer gives. -/
def State.setNVZC (s : State) (w : Width) (r : AluResult) : State :=
  ((s.setFlag maskC r.carry).setFlag maskV r.overflow).setNZ w r.value

/-- The running values of the digit-serial algorithms: `t`, `c` and `vout` (R162, R164). -/
structure BcdAcc where
  total : Int
  carry : Bool
  overflow : Bool
  deriving DecidableEq, Repr

/-- R162: the decimal digits of a width, `k` in 0 .. w/4 − 1. -/
def digitsOf : Width → List Nat
  | .w8 => [0, 1]
  | .w16 => [0, 1, 2, 3]

/-- R162, R164: digit `k` of both operands with the carry into it, over the digits already done. -/
def digitSum (a b : Nat) (acc : BcdAcc) (k : Nat) : Int :=
  (((a &&& (0xF <<< (4 * k))) + (b &&& (0xF <<< (4 * k))) + (acc.carry.toNat <<< (4 * k)) : Nat) : Int)
    + acc.total % 2 ^ (4 * k)

/-- The digit `v` at place `k` with ones in every digit below it: `(v << 4k) | (2^(4k) − 1)`. -/
def digitTop (v k : Nat) : Int := (((v <<< (4 * k)) ||| (2 ^ (4 * k) - 1) : Nat) : Int)

/-- R162, R164: `vout`, taken at the last digit before its adjustment. -/
def digitOverflow (w : Width) (a b : Nat) (acc : BcdAcc) (k : Nat) : Bool :=
  if 4 * (k + 1) = w.bits then overflowBit w a b (digitSum a b acc k).toNat else acc.overflow

/-- R162: one digit of the decimal sum: 6 is added to a digit above 9. -/
def bcdAddDigit (w : Width) (a b : Nat) (acc : BcdAcc) (k : Nat) : BcdAcc :=
  let t := digitSum a b acc k
  let adjusted := if t > digitTop 0x9 k then t + ((0x6 <<< (4 * k) : Nat) : Int) else t
  { total := adjusted
    carry := decide (adjusted > digitTop 0xF k)
    overflow := digitOverflow w a b acc k }

/-- R164: one digit of the decimal difference (`b` already complemented): 6 is taken from a digit with no carry. -/
def bcdSubDigit (w : Width) (a b : Nat) (acc : BcdAcc) (k : Nat) : BcdAcc :=
  let t := digitSum a b acc k
  let adjusted := if t ≤ digitTop 0xF k then t - ((0x6 <<< (4 * k) : Nat) : Int) else t
  { total := adjusted
    carry := decide (adjusted > digitTop 0xF k)
    overflow := digitOverflow w a b acc k }

/-- The answer of a digit-serial algorithm: `t mod 2^w`, `c`, `vout`. -/
def bcdResult (w : Width) (acc : BcdAcc) : AluResult :=
  { value := BitVec.ofNat 16 (acc.total % 2 ^ w.bits).toNat
    carry := acc.carry
    overflow := acc.overflow }

/-- R162 `BcdAdd(w, a, b, cin)`, the default of the parameter. -/
def bcdAdd (w : Width) (a b : Word) (cin : Bool) : AluResult :=
  bcdResult w ((digitsOf w).foldl (bcdAddDigit w a.toNat b.toNat) ⟨0, cin, false⟩)

/-- R164 `BcdSub(w, a, b, cin)`, the default of the parameter. -/
def bcdSub (w : Width) (a b : Word) (cin : Bool) : AluResult :=
  bcdResult w ((digitsOf w).foldl (bcdSubDigit w a.toNat (complement w b).toNat) ⟨0, cin, false⟩)

/-- R14 `PageCrossed(base, sum)`: bits 15:8 differ. -/
def pageCrossed (base sum : Word) : Bool := hi base != hi sum

end Sys2Proof.Machine
end

