-- ==== Sys2Proof/Machine/OpTable.lean ====
section
/-! DEFINITION. The dispatch table as a parameter (R4 `OPTABLE`, R94, R96, D2): any mnemonic bound to any addressing mode at any
opcode byte, in three tables with the selection of R94; and the table of R100 in this form. -/

namespace Sys2Proof.Machine

/-- The 31 addressing modes (R101, R150). -/
inductive Mode where
  | imp | stk | acc | immm | immx | imm8 | imm16 | sig
  | dp | dpx | dpy | idp | idpx | idpy | ildp | ildpy
  | sr | isry | rel8 | rel16
  | abs | absx | absy | long | longx
  | pabs | plong | iabs | iabsx | ilabs | move
  deriving DecidableEq, Repr

/-- R96: one cell of a table. Its length is its mode's (R90, `Operand.bytes`), its base count `BASE_CYCLES`, and whether it is
unimplemented `UNIMPL`. -/
structure TableCell where
  mnemonic : Mnemonic
  mode : Mode
  deriving DecidableEq, Repr

/-- R94: the three parallel tables. -/
structure OpTable where
  /-- The 8-bit table. -/
  t8 : Byte → TableCell
  /-- The 16-bit-accumulator table; it counts for the opcodes of `MIMM` alone. -/
  t16A : Byte → TableCell
  /-- The 16-bit-index table; it counts for the opcodes of `XIMM` alone. -/
  t16X : Byte → TableCell

/-- R94 `Select(m, x, op)`. -/
def OpTable.select (T : OpTable) (m x : Bool) (op : Byte) : TableCell :=
  if mimm.contains op && !m then T.t16A op
  else if ximm.contains op && !x then T.t16X op
  else T.t8 op

/-- R92: the operand of a mode from the bytes after the opcode; the two immediates `immm` and `immx` take one or two bytes by
the live flag (R126, R127), in whichever table they stand. -/
def Mode.operand (m x : Bool) (b1 b2 b3 : Byte) : Mode → Operand
  | .imp => .imp
  | .stk => .stk
  | .acc => .acc
  | .immm => if m then .immM8 b1 else .immM16 (word b1 b2)
  | .immx => if x then .immX8 b1 else .immX16 (word b1 b2)
  | .imm8 => .imm8 b1
  | .imm16 => .imm16 (word b1 b2)
  | .sig => .sig b1
  | .dp => .dp b1
  | .dpx => .dpx b1
  | .dpy => .dpy b1
  | .idp => .idp b1
  | .idpx => .idpx b1
  | .idpy => .idpy b1
  | .ildp => .ildp b1
  | .ildpy => .ildpy b1
  | .sr => .sr b1
  | .isry => .isry b1
  | .rel8 => .rel8 b1
  | .rel16 => .rel16 (word b1 b2)
  | .abs => .abs (word b1 b2)
  | .absx => .absx (word b1 b2)
  | .absy => .absy (word b1 b2)
  | .long => .long (addr b3 (word b1 b2))
  | .longx => .longx (addr b3 (word b1 b2))
  | .pabs => .pabs (word b1 b2)
  | .plong => .plong (addr b3 (word b1 b2))
  | .iabs => .iabs (word b1 b2)
  | .iabsx => .iabsx (word b1 b2)
  | .ilabs => .ilabs (word b1 b2)
  | .move => .move b1 b2

/-- The mode of an operand. -/
def modeOf : Operand → Mode
  | .imp => .imp
  | .stk => .stk
  | .acc => .acc
  | .immM8 _ | .immM16 _ => .immm
  | .immX8 _ | .immX16 _ => .immx
  | .imm8 _ => .imm8
  | .imm16 _ => .imm16
  | .sig _ => .sig
  | .dp _ => .dp
  | .dpx _ => .dpx
  | .dpy _ => .dpy
  | .idp _ => .idp
  | .idpx _ => .idpx
  | .idpy _ => .idpy
  | .ildp _ => .ildp
  | .ildpy _ => .ildpy
  | .sr _ => .sr
  | .isry _ => .isry
  | .rel8 _ => .rel8
  | .rel16 _ => .rel16
  | .abs _ => .abs
  | .absx _ => .absx
  | .absy _ => .absy
  | .long _ => .long
  | .longx _ => .longx
  | .pabs _ => .pabs
  | .plong _ => .plong
  | .iabs _ => .iabs
  | .iabsx _ => .iabsx
  | .ilabs _ => .ilabs
  | .move _ _ => .move

/-- The cell of an instruction. -/
def cellOf (i : Instr) : TableCell := ⟨i.mnemonic, modeOf i.operand⟩

/-- An instruction that a cell of the matrix of R100 holds; its operand fields are 0, and no mode depends on them. -/
def sampleOf : Entry → Instr
  | .f1 i => i
  | .f2 mk => mk 0
  | .f2m mk8 _ => mk8 0
  | .f2x mk8 _ => mk8 0
  | .f3 mk => mk 0
  | .f3b mk => mk 0 0
  | .f4 mk => mk 0

/-- R100: the cell of an opcode byte, from the matrix of the decoder, in which every byte has one (R97). -/
def standardCell (op : Byte) : TableCell := cellOf (sampleOf ((entryOf op).getD (.f1 .nop)))

/-- R4 `OPTABLE`, column "default": the table of R100. The wide immediates of R93 have the mnemonic and the mode of the narrow
ones: the mode takes its width from the live flag. -/
def OpTable.standard : OpTable := ⟨standardCell, standardCell, standardCell⟩

end Sys2Proof.Machine
end

