-- ==== Sys2Proof/Machine/Parameters.lean ====
section
/-! DEFINITION. The parameters of R4 as one argument of the machine. Every function whose answer depends on a parameter takes
`P` last, and an application that gives none is at the defaults (`Parameters.std`), which the spec uses in every rule. The
launch parameters `RESET_C` to `RESET_CARRY` and `MEM_INIT` are the fields of `Launch` (Machine/Launch.lean). -/

namespace Sys2Proof.Machine

/-- R4: what an implementation of the block fixes and no step changes. -/
structure Parameters where
  /-- `OPTABLE`: the mnemonic and the mode of every opcode byte, with the wide alternates of R94. -/
  optable : OpTable
  /-- `BASE_CYCLES`: the base cycle count of every opcode byte. -/
  baseCycles : Byte → Nat
  /-- What `UNIMPL` holds beside 0xCB and 0xDB, which may not be removed from it (R345, R346). -/
  unimplAlso : List Byte
  /-- `DP_E_WRAP`: the page wrap of direct-page addresses in emulation mode with `DL` = 0. -/
  dpEWrap : Bool
  /-- `INDEX_CROSSES_BANK`: whether indexed data addresses carry into the bank byte. -/
  indexCrossesBank : Bool
  /-- `PagePenalty`: whether an operator and mode pay the page-crossing cycle, given the flag x and the crossing. -/
  pagePenalty : Mnemonic → Params.PageMode → Bool → Bool → Bool
  /-- `BcdAdd`: the decimal sum of two values with a carry at a width. -/
  bcdAdd : Width → Word → Word → Bool → AluResult
  /-- `BcdSub`: the decimal difference of two values with a carry at a width. -/
  bcdSub : Width → Word → Word → Bool → AluResult
  /-- `VEC_BRK_N`: the vector of BRK in native mode. -/
  vecBrkN : Addr
  /-- `VEC_BRK_E`: the vector of BRK in emulation mode. -/
  vecBrkE : Addr
  /-- `VEC_COP_N`: the vector of COP in native mode. -/
  vecCopN : Addr
  /-- `VEC_COP_E`: the vector of COP in emulation mode. -/
  vecCopE : Addr
  /-- `VEC_RESET`: the vector that `reset` reads. -/
  vecReset : Addr
  /-- `CYC_WIDTH`: the width of the cycle accumulator (`StateAt`). -/
  cycWidth : Nat

/-- R4, column "default". -/
def Parameters.std : Parameters where
  optable := .standard
  baseCycles := Machine.baseCycles
  unimplAlso := []
  dpEWrap := Params.dpEWrap
  indexCrossesBank := Params.indexCrossesBank
  pagePenalty := Params.pagePenalty
  bcdAdd := Machine.bcdAdd
  bcdSub := Machine.bcdSub
  vecBrkN := Params.vecBrkN
  vecBrkE := Params.vecBrkE
  vecCopN := Params.vecCopN
  vecCopE := Params.vecCopE
  vecReset := Params.vecReset
  cycWidth := Config.cycWidth

/-- R4 `UNIMPL`: a superset of 0xCB and 0xDB (R345, R346). -/
def Parameters.unimpl (P : Parameters) : List Byte := Params.unimpl ++ P.unimplAlso

end Sys2Proof.Machine
end

