-- ==== Sys2Proof/Machine/Operands.lean ====
section
/-! DEFINITION. The addressing-mode unit (40_addressing_modes.md): the operand locations (R40 to R42), the direct-page
addresses and pointers (R66, R82), the data location (R83), and one function per mode that forms the operand and the
cycle adjustment (R120 to R151). A mode reads the state and writes nothing. -/

namespace Sys2Proof.Machine

/-! ## Operand locations -/

/-- R40: where an operand lies. -/
inductive Loc where
  /-- `MemBank(bank, off)`: memory; further bytes wrap inside the bank. -/
  | memBank (bank : Byte) (off : Word)
  /-- `MemLong(addr)`: memory; further bytes are linear in 24 bits. -/
  | memLong (a : Addr)
  /-- `Imm(v)`: the operand bytes themselves, read-only. -/
  | imm (v : Word)
  /-- `RegA`: the accumulator through its port. -/
  | regA
  deriving DecidableEq, Repr

/-- R40: the addresses of the bytes of a location at a width; a location that is no memory has none. -/
def Loc.addrs (loc : Loc) (w : Width) : List Addr :=
  match loc with
  | .memBank bank off => bankAddrs bank off w.bytes
  | .memLong a => linearAddrs a w.bytes
  | .imm _ => []
  | .regA => []

/-- R41 `LocRead(loc, w)`. -/
def State.locRead (s : State) (loc : Loc) (w : Width) : Word :=
  match loc with
  | .memBank bank off => BitVec.ofNat 16 (s.readBank bank off w.bytes)
  | .memLong a => BitVec.ofNat 16 (s.readLinear a w.bytes)
  | .imm v => truncTo w v
  | .regA => s.readA w

/-- R42 `LocWrite(loc, w, v)`; a write to an immediate is a refusal. -/
def State.locWrite (s : State) (loc : Loc) (w : Width) (v : Word) : Except Refusal State :=
  match loc with
  | .memBank bank off => .ok (s.writeBank bank off w.bytes v.toNat)
  | .memLong a => .ok (s.writeLinear a w.bytes v.toNat)
  | .imm _ => .error .writeToImmediate
  | .regA => .ok (s.setA w v)

/-- Whether a location is the immediate one (R184, R365: "the mode is not immediate"). -/
def Loc.isImm : Loc → Bool
  | .imm _ => true
  | .memBank _ _ => false
  | .memLong _ => false
  | .regA => false

/-! ## Direct page and data bank -/

/-- R66 `DPAddr(t)` with the parameter `DP_E_WRAP` given. -/
def dpAddrWith (wrap : Bool) (s : State) (t : Nat) : Word :=
  if wrap && s.e && decide (lo s.d = 0) then word (BitVec.ofNat 8 t) (hi s.d) else s.d + BitVec.ofNat 16 t

/-- R66 `DPAddr(t)`: an offset in bank 0x00. -/
def dpAddr (s : State) (t : Nat) (P : Parameters := .std) : Word := dpAddrWith P.dpEWrap s t

/-- R66 `DPAddrN(t)`: never page-wrapped. -/
def dpAddrN (s : State) (t : Nat) : Word := s.d + BitVec.ofNat 16 t

/-- R82 `PtrDP16(t)`. -/
def ptrDp16 (s : State) (t : Nat) (P : Parameters := .std) : Word :=
  word (s.readMem (addr 0x00 (dpAddr s t P))) (s.readMem (addr 0x00 (dpAddr s (t + 1) P)))

/-- R82 `PtrDPN16(t)`. -/
def ptrDpN16 (s : State) (t : Nat) : Word :=
  word (s.readMem (addr 0x00 (dpAddrN s t))) (s.readMem (addr 0x00 (dpAddrN s (t + 1))))

/-- R82 `PtrDPN24(t)`. -/
def ptrDpN24 (s : State) (t : Nat) : Addr := addr (s.readMem (addr 0x00 (dpAddrN s (t + 2)))) (ptrDpN16 s t)

/-- R83 `DataLoc(bank, base, idx)` with the parameter `INDEX_CROSSES_BANK` given. -/
def dataLocWith (crosses : Bool) (bank : Byte) (base idx : Word) : Loc :=
  if crosses then .memLong (addr bank base + idx.setWidth 24) else .memBank bank (base + idx)

/-- R83 `DataLoc(bank, base, idx)`. -/
def dataLoc (bank : Byte) (base idx : Word) (P : Parameters := .std) : Loc :=
  dataLocWith P.indexCrossesBank bank base idx

/-! ## What a mode answers -/

/-- R120: the length of the instruction in bytes (opcode included), the operand (a location, a pair of locations, a
target, or nothing) and the cycle adjustment `adj`. -/
structure Formed (α : Type) where
  len : Nat
  operand : α
  adj : Int
  deriving DecidableEq, Repr

/-- R121 `DLpen`. -/
def dlPen (s : State) : Int := if lo s.d = 0 then 0 else 1

/-- R123 `PXpen` for the 16-bit base before and the sum after the index is added. -/
def pxPen (op : Mnemonic) (mode : Params.PageMode) (s : State) (base sum : Word)
    (P : Parameters := .std) : Int :=
  if P.pagePenalty op mode s.flagX (pageCrossed base sum) then 1 else 0

/-- R365: one more cycle when a governing width flag is 0. -/
def widthPen (flag : Bool) : Int := if flag then 0 else 1

/-! ## Modes with no memory operand -/

/-- R124: `imp` and `stk`. -/
def modeImp : Formed Unit := ⟨1, (), 0⟩

/-- R125: `acc`; the −2 cancels the operator's +2. -/
def modeAcc (s : State) : Formed Loc := ⟨1, .regA, if s.flagM then 0 else -2⟩

/-- R126: `immm`, the row of one byte. -/
def modeImmM8 (v : Byte) (s : State) : Formed Loc := ⟨2, .imm (word v 0x00), widthPen s.flagM⟩

/-- R126: `immm`, the row of two bytes. -/
def modeImmM16 (v : Word) (s : State) : Formed Loc := ⟨3, .imm v, widthPen s.flagM⟩

/-- R127: `immx`, the row of one byte. -/
def modeImmX8 (v : Byte) (s : State) : Formed Loc := ⟨2, .imm (word v 0x00), widthPen s.flagX⟩

/-- R127: `immx`, the row of two bytes. -/
def modeImmX16 (v : Word) (s : State) : Formed Loc := ⟨3, .imm v, widthPen s.flagX⟩

/-- R128: `imm8`. -/
def modeImm8 (k : Byte) : Formed Byte := ⟨2, k, 0⟩

/-- R128: `imm16`. -/
def modeImm16 (v : Word) : Formed Word := ⟨3, v, 0⟩

/-- R128: `sig`; the signature byte is read and discarded. -/
def modeSig (_b : Byte) : Formed Unit := ⟨2, (), 0⟩

/-! ## Direct-page modes -/

/-- R129: `dp`. -/
def modeDp (dd : Byte) (s : State) (P : Parameters := .std) : Formed Loc :=
  ⟨2, .memBank 0x00 (dpAddr s dd.toNat P), dlPen s⟩

/-- R130: `dpx`. -/
def modeDpx (dd : Byte) (s : State) (P : Parameters := .std) : Formed Loc :=
  ⟨2, .memBank 0x00 (dpAddr s (dd.toNat + s.x.toNat) P), dlPen s⟩

/-- R131: `dpy`. -/
def modeDpy (dd : Byte) (s : State) (P : Parameters := .std) : Formed Loc :=
  ⟨2, .memBank 0x00 (dpAddr s (dd.toNat + s.y.toNat) P), dlPen s⟩

/-- R132: `idp`. -/
def modeIdp (dd : Byte) (s : State) (P : Parameters := .std) : Formed Loc :=
  ⟨2, dataLoc s.dbr (ptrDp16 s dd.toNat P) 0 P, dlPen s⟩

/-- R132, R305: `idp` as PEI uses it: the pointer itself, never page-wrapped. -/
def modeIdpPointer (dd : Byte) (s : State) : Formed Word := ⟨2, ptrDpN16 s dd.toNat, dlPen s⟩

/-- R133: `idpx`. -/
def modeIdpx (dd : Byte) (s : State) (P : Parameters := .std) : Formed Loc :=
  ⟨2, dataLoc s.dbr (ptrDp16 s (dd.toNat + s.x.toNat) P) 0 P, dlPen s⟩

/-- R134: `idpy`. -/
def modeIdpy (op : Mnemonic) (dd : Byte) (s : State) (P : Parameters := .std) : Formed Loc :=
  let ptr := ptrDp16 s dd.toNat P
  ⟨2, dataLoc s.dbr ptr s.y P, dlPen s + pxPen op .idpy s ptr (ptr + s.y) P⟩

/-- R135: `ildp`. -/
def modeIldp (dd : Byte) (s : State) : Formed Loc := ⟨2, .memLong (ptrDpN24 s dd.toNat), dlPen s⟩

/-- R136: `ildpy`; the sum carries into the bank byte. -/
def modeIldpy (dd : Byte) (s : State) : Formed Loc :=
  ⟨2, .memLong (ptrDpN24 s dd.toNat + s.y.setWidth 24), dlPen s⟩

/-! ## Absolute modes -/

/-- R137: `abs`. -/
def modeAbs (aa : Word) (s : State) (P : Parameters := .std) : Formed Loc := ⟨3, dataLoc s.dbr aa 0 P, 0⟩

/-- R138: `absx`. -/
def modeAbsx (op : Mnemonic) (aa : Word) (s : State) (P : Parameters := .std) : Formed Loc :=
  ⟨3, dataLoc s.dbr aa s.x P, pxPen op .absx s aa (aa + s.x) P⟩

/-- R139: `absy`. -/
def modeAbsy (op : Mnemonic) (aa : Word) (s : State) (P : Parameters := .std) : Formed Loc :=
  ⟨3, dataLoc s.dbr aa s.y P, pxPen op .absy s aa (aa + s.y) P⟩

/-- R140: `long`. -/
def modeLong (al : Addr) : Formed Loc := ⟨4, .memLong al, 0⟩

/-- R141: `longx`; the sum carries into the bank byte. -/
def modeLongx (al : Addr) (s : State) : Formed Loc := ⟨4, .memLong (al + s.x.setWidth 24), 0⟩

/-! ## Stack-relative modes -/

/-- R142: `sr`; the offset is unsigned and not confined to page 0x01. -/
def modeSr (sr : Byte) (s : State) : Formed Loc := ⟨2, .memBank 0x00 (s.sp + sr.setWidth 16), 0⟩

/-- R143: `isry`. -/
def modeIsry (sr : Byte) (s : State) (P : Parameters := .std) : Formed Loc :=
  ⟨2, dataLoc s.dbr (BitVec.ofNat 16 (s.readBank 0x00 (s.sp + sr.setWidth 16) 2)) s.y P, 0⟩

/-! ## Modes that form a jump target -/

/-- R144: `rel8`: the target in bank `PBR`. -/
def modeRel8 (disp : Byte) (s : State) : Formed Word := ⟨2, s.pc + 2 + disp.signExtend 16, 0⟩

/-- R145: `rel16`: the target of BRL, the value PER pushes. -/
def modeRel16 (disp : Word) (s : State) : Formed Word := ⟨3, s.pc + 3 + disp, 0⟩

/-- R151: `pabs`: the target in bank `PBR`. -/
def modePabs (aa : Word) : Formed Word := ⟨3, aa, 0⟩

/-- R151: `plong`: a 24-bit target. -/
def modePlong (al : Addr) : Formed Addr := ⟨4, al, 0⟩

/-- R146: `iabs`: the pointer lies in bank 0x00, the target in bank `PBR`. -/
def modeIabs (aa : Word) (s : State) : Formed Word := ⟨3, BitVec.ofNat 16 (s.readBank 0x00 aa 2), 0⟩

/-- R147: `iabsx`: the pointer lies in the program bank, the target in bank `PBR`. -/
def modeIabsx (aa : Word) (s : State) : Formed Word := ⟨3, BitVec.ofNat 16 (s.readBank s.pbr (aa + s.x) 2), 0⟩

/-- R148: `ilabs`: a 24-bit target from three bytes of bank 0x00. -/
def modeIlabs (aa : Word) (s : State) : Formed Addr := ⟨3, BitVec.ofNat 24 (s.readBank 0x00 aa 3), 0⟩

/-! ## Block move -/

/-- R149: `move`: the source and the destination location, both 8 bits wide. -/
def modeMove (dst src : Byte) (s : State) : Formed (Loc × Loc) := ⟨3, (.memBank src s.x, .memBank dst s.y), 0⟩

/-! ## Summary -/

/-- R150: the data location of every mode that forms one, for the operator `op`. -/
def modeLoc (op : Mnemonic) (o : Operand) (s : State) (P : Parameters := .std) : Option (Formed Loc) :=
  match o with
  | .acc => some (modeAcc s)
  | .immM8 v => some (modeImmM8 v s)
  | .immM16 v => some (modeImmM16 v s)
  | .immX8 v => some (modeImmX8 v s)
  | .immX16 v => some (modeImmX16 v s)
  | .dp dd => some (modeDp dd s P)
  | .dpx dd => some (modeDpx dd s P)
  | .dpy dd => some (modeDpy dd s P)
  | .idp dd => some (modeIdp dd s P)
  | .idpx dd => some (modeIdpx dd s P)
  | .idpy dd => some (modeIdpy op dd s P)
  | .ildp dd => some (modeIldp dd s)
  | .ildpy dd => some (modeIldpy dd s)
  | .sr b => some (modeSr b s)
  | .isry b => some (modeIsry b s P)
  | .abs aa => some (modeAbs aa s P)
  | .absx aa => some (modeAbsx op aa s P)
  | .absy aa => some (modeAbsy op aa s P)
  | .long al => some (modeLong al)
  | .longx al => some (modeLongx al s)
  | .imp | .stk | .imm8 _ | .imm16 _ | .sig _ => none
  | .rel8 _ | .rel16 _ | .pabs _ | .iabs _ | .iabsx _ | .ilabs _ | .plong _ => none
  | .move _ _ => none

end Sys2Proof.Machine
end

