-- ==== Sys2Proof/Machine/Run.lean ====
section
/-! DEFINITION. How an instruction completes: with its next state and its cycle count (R360, R364), which is then added to `CYC`
(R368). A meaning gives the operator the state with `PC` already past the instruction (R360); the operator may overwrite it. -/

namespace Sys2Proof.Machine

/-- R360, R381: what executing an entry answers: the state it leaves (`CYC` not yet counted) with its cycle count, or why there is
none. -/
abbrev Counted := Host.Outcome (State × Int) Fault Refusal

/-- R364: an instruction that completes in the state `s`, at `base + adj + extra` cycles. -/
def complete (op : Byte) (adj extra : Int) (s : State) (P : Parameters := .std) : Counted :=
  .next (s, P.baseCycles op + adj + extra)

/-- As `complete`, for an operator that writes its location (R42). -/
def completeWrite (op : Byte) (adj extra : Int) (r : Except Refusal State) (P : Parameters := .std) : Counted :=
  match r with
  | .ok s => complete op adj extra s P
  | .error e => .refused e

/-- R368: the cycle count is added to `CYC`. -/
def chargeCycles (r : Counted) : Outcome :=
  match r with
  | .next (s, cycles) => .next (s.addCycles cycles)
  | .fault e => .fault e
  | .refused e => .refused e

/-- An instruction with no operand, and what its operator adds to the count (R124, R290, R364). -/
def stacked (op : Byte) (f : Formed Unit) (extra : Int) (g : State → State) (s : State) (P : Parameters := .std) : Counted :=
  complete op f.adj extra (g (s.advance f.len)) P

/-- An instruction with no operand and no cycle of its operator (R124, R364). -/
def implied (op : Byte) (f : Formed Unit) (g : State → State) (s : State) (P : Parameters := .std) : Counted :=
  stacked op f 0 g s P

/-- R365 `m1`, `x1`: the operator's cycle for a 16-bit operand; the immediate mode charges its own (R122). -/
def extraRead (flag : Bool) (loc : Loc) : Int := if loc.isImm then 0 else widthPen flag

/-- R191 `m2`: two cycles more for a 16-bit read-modify-write. -/
def extraRmw (s : State) : Int := 2 * widthPen s.flagM

end Sys2Proof.Machine
end

