-- ==== Sys2Proof/Machine/Arithmetic.lean ====
section
/-! DEFINITION. The arithmetic operators (41_arithmetic.md): ADC, SBC, INC, DEC, INX, INY, DEX, DEY. -/

namespace Sys2Proof.Machine

/-! ## ADC and SBC -/

/-- R161: the sum, binary or decimal by `P.d`. -/
def adcSum (w : Width) (a b : Word) (s : State) (P : Parameters := .std) : AluResult :=
  if s.flagD then P.bcdAdd w a b s.flagC else addBin w a b s.flagC

/-- R161: the operator of ADC. -/
def opAdc (loc : Loc) (s : State) (P : Parameters := .std) : State :=
  let r := adcSum s.wM (s.readA s.wM) (s.locRead loc s.wM) s P
  (s.setA s.wM r.value).setNVZC s.wM r

/-- ADC in any mode: the width cycle and the operator (R364, R365). -/
def adcWith (op : Byte) (f : Formed Loc) (s : State) (P : Parameters := .std) : Counted :=
  complete op f.adj (extraRead s.flagM f.operand) (opAdc f.operand (s.advance f.len) P) P

/-- 0x61 `ADC (d,X)` (R161, R133). -/
def execAdcIdpx (dd : Byte) (s : State) : Outcome := chargeCycles (adcWith 0x61 (modeIdpx dd s) s)

/-- 0x63 `ADC d,S` (R161, R142). -/
def execAdcSr (sr : Byte) (s : State) : Outcome := chargeCycles (adcWith 0x63 (modeSr sr s) s)

/-- 0x65 `ADC d` (R161, R129). -/
def execAdcDp (dd : Byte) (s : State) : Outcome := chargeCycles (adcWith 0x65 (modeDp dd s) s)

/-- 0x67 `ADC [d]` (R161, R135). -/
def execAdcIldp (dd : Byte) (s : State) : Outcome := chargeCycles (adcWith 0x67 (modeIldp dd s) s)

/-- 0x69 `ADC #m`, m=1 (R161, R126). -/
def execAdcImmM8 (v : Byte) (s : State) : Outcome := chargeCycles (adcWith 0x69 (modeImmM8 v s) s)

/-- 0x69 `ADC #m`, m=0 (R161, R126). -/
def execAdcImmM16 (v : Word) (s : State) : Outcome := chargeCycles (adcWith 0x69 (modeImmM16 v s) s)

/-- 0x6D `ADC a` (R161, R137). -/
def execAdcAbs (aa : Word) (s : State) : Outcome := chargeCycles (adcWith 0x6D (modeAbs aa s) s)

/-- 0x6F `ADC al` (R161, R140). -/
def execAdcLong (al : Addr) (s : State) : Outcome := chargeCycles (adcWith 0x6F (modeLong al) s)

/-- 0x71 `ADC (d),Y` (R161, R134). -/
def execAdcIdpy (dd : Byte) (s : State) : Outcome := chargeCycles (adcWith 0x71 (modeIdpy .adc dd s) s)

/-- 0x72 `ADC (d)` (R161, R132). -/
def execAdcIdp (dd : Byte) (s : State) : Outcome := chargeCycles (adcWith 0x72 (modeIdp dd s) s)

/-- 0x73 `ADC (d,S),Y` (R161, R143). -/
def execAdcIsry (sr : Byte) (s : State) : Outcome := chargeCycles (adcWith 0x73 (modeIsry sr s) s)

/-- 0x75 `ADC d,X` (R161, R130). -/
def execAdcDpx (dd : Byte) (s : State) : Outcome := chargeCycles (adcWith 0x75 (modeDpx dd s) s)

/-- 0x77 `ADC [d],Y` (R161, R136). -/
def execAdcIldpy (dd : Byte) (s : State) : Outcome := chargeCycles (adcWith 0x77 (modeIldpy dd s) s)

/-- 0x79 `ADC a,Y` (R161, R139). -/
def execAdcAbsy (aa : Word) (s : State) : Outcome := chargeCycles (adcWith 0x79 (modeAbsy .adc aa s) s)

/-- 0x7D `ADC a,X` (R161, R138). -/
def execAdcAbsx (aa : Word) (s : State) : Outcome := chargeCycles (adcWith 0x7D (modeAbsx .adc aa s) s)

/-- 0x7F `ADC al,X` (R161, R141). -/
def execAdcLongx (al : Addr) (s : State) : Outcome := chargeCycles (adcWith 0x7F (modeLongx al s) s)

/-- R163: the difference, binary or decimal by `P.d`. -/
def sbcDiff (w : Width) (a b : Word) (s : State) (P : Parameters := .std) : AluResult :=
  if s.flagD then P.bcdSub w a b s.flagC else subBin w a b s.flagC

/-- R163: the operator of SBC. -/
def opSbc (loc : Loc) (s : State) (P : Parameters := .std) : State :=
  let r := sbcDiff s.wM (s.readA s.wM) (s.locRead loc s.wM) s P
  (s.setA s.wM r.value).setNVZC s.wM r

/-- SBC in any mode: the width cycle and the operator (R364, R365). -/
def sbcWith (op : Byte) (f : Formed Loc) (s : State) (P : Parameters := .std) : Counted :=
  complete op f.adj (extraRead s.flagM f.operand) (opSbc f.operand (s.advance f.len) P) P

/-- 0xE1 `SBC (d,X)` (R163, R133). -/
def execSbcIdpx (dd : Byte) (s : State) : Outcome := chargeCycles (sbcWith 0xE1 (modeIdpx dd s) s)

/-- 0xE3 `SBC d,S` (R163, R142). -/
def execSbcSr (sr : Byte) (s : State) : Outcome := chargeCycles (sbcWith 0xE3 (modeSr sr s) s)

/-- 0xE5 `SBC d` (R163, R129). -/
def execSbcDp (dd : Byte) (s : State) : Outcome := chargeCycles (sbcWith 0xE5 (modeDp dd s) s)

/-- 0xE7 `SBC [d]` (R163, R135). -/
def execSbcIldp (dd : Byte) (s : State) : Outcome := chargeCycles (sbcWith 0xE7 (modeIldp dd s) s)

/-- 0xE9 `SBC #m`, m=1 (R163, R126). -/
def execSbcImmM8 (v : Byte) (s : State) : Outcome := chargeCycles (sbcWith 0xE9 (modeImmM8 v s) s)

/-- 0xE9 `SBC #m`, m=0 (R163, R126). -/
def execSbcImmM16 (v : Word) (s : State) : Outcome := chargeCycles (sbcWith 0xE9 (modeImmM16 v s) s)

/-- 0xED `SBC a` (R163, R137). -/
def execSbcAbs (aa : Word) (s : State) : Outcome := chargeCycles (sbcWith 0xED (modeAbs aa s) s)

/-- 0xEF `SBC al` (R163, R140). -/
def execSbcLong (al : Addr) (s : State) : Outcome := chargeCycles (sbcWith 0xEF (modeLong al) s)

/-- 0xF1 `SBC (d),Y` (R163, R134). -/
def execSbcIdpy (dd : Byte) (s : State) : Outcome := chargeCycles (sbcWith 0xF1 (modeIdpy .sbc dd s) s)

/-- 0xF2 `SBC (d)` (R163, R132). -/
def execSbcIdp (dd : Byte) (s : State) : Outcome := chargeCycles (sbcWith 0xF2 (modeIdp dd s) s)

/-- 0xF3 `SBC (d,S),Y` (R163, R143). -/
def execSbcIsry (sr : Byte) (s : State) : Outcome := chargeCycles (sbcWith 0xF3 (modeIsry sr s) s)

/-- 0xF5 `SBC d,X` (R163, R130). -/
def execSbcDpx (dd : Byte) (s : State) : Outcome := chargeCycles (sbcWith 0xF5 (modeDpx dd s) s)

/-- 0xF7 `SBC [d],Y` (R163, R136). -/
def execSbcIldpy (dd : Byte) (s : State) : Outcome := chargeCycles (sbcWith 0xF7 (modeIldpy dd s) s)

/-- 0xF9 `SBC a,Y` (R163, R139). -/
def execSbcAbsy (aa : Word) (s : State) : Outcome := chargeCycles (sbcWith 0xF9 (modeAbsy .sbc aa s) s)

/-- 0xFD `SBC a,X` (R163, R138). -/
def execSbcAbsx (aa : Word) (s : State) : Outcome := chargeCycles (sbcWith 0xFD (modeAbsx .sbc aa s) s)

/-- 0xFF `SBC al,X` (R163, R141). -/
def execSbcLongx (al : Addr) (s : State) : Outcome := chargeCycles (sbcWith 0xFF (modeLongx al s) s)

/-! ## INC and DEC -/

/-- R165: the operator of INC. -/
def opInc (loc : Loc) (s : State) : Except Refusal State :=
  let r := truncTo s.wM (s.locRead loc s.wM + 1)
  (s.locWrite loc s.wM r).map fun t => t.setNZ s.wM r

/-- INC in any mode: the read-modify-write cycles and the operator (R191, R364). -/
def incWith (op : Byte) (f : Formed Loc) (s : State) (P : Parameters := .std) : Counted :=
  completeWrite op f.adj (extraRmw s) (opInc f.operand (s.advance f.len)) P

/-- 0x1A `INC A` (R165, R125). -/
def execIncAcc (s : State) : Outcome := chargeCycles (incWith 0x1A (modeAcc s) s)

/-- 0xE6 `INC d` (R165, R129). -/
def execIncDp (dd : Byte) (s : State) : Outcome := chargeCycles (incWith 0xE6 (modeDp dd s) s)

/-- 0xEE `INC a` (R165, R137). -/
def execIncAbs (aa : Word) (s : State) : Outcome := chargeCycles (incWith 0xEE (modeAbs aa s) s)

/-- 0xF6 `INC d,X` (R165, R130). -/
def execIncDpx (dd : Byte) (s : State) : Outcome := chargeCycles (incWith 0xF6 (modeDpx dd s) s)

/-- 0xFE `INC a,X` (R165, R138). -/
def execIncAbsx (aa : Word) (s : State) : Outcome := chargeCycles (incWith 0xFE (modeAbsx .inc aa s) s)

/-- R166: the operator of DEC. -/
def opDec (loc : Loc) (s : State) : Except Refusal State :=
  let r := truncTo s.wM (s.locRead loc s.wM - 1)
  (s.locWrite loc s.wM r).map fun t => t.setNZ s.wM r

/-- DEC in any mode: the read-modify-write cycles and the operator (R191, R364). -/
def decWith (op : Byte) (f : Formed Loc) (s : State) (P : Parameters := .std) : Counted :=
  completeWrite op f.adj (extraRmw s) (opDec f.operand (s.advance f.len)) P

/-- 0x3A `DEC A` (R166, R125). -/
def execDecAcc (s : State) : Outcome := chargeCycles (decWith 0x3A (modeAcc s) s)

/-- 0xC6 `DEC d` (R166, R129). -/
def execDecDp (dd : Byte) (s : State) : Outcome := chargeCycles (decWith 0xC6 (modeDp dd s) s)

/-- 0xCE `DEC a` (R166, R137). -/
def execDecAbs (aa : Word) (s : State) : Outcome := chargeCycles (decWith 0xCE (modeAbs aa s) s)

/-- 0xD6 `DEC d,X` (R166, R130). -/
def execDecDpx (dd : Byte) (s : State) : Outcome := chargeCycles (decWith 0xD6 (modeDpx dd s) s)

/-- 0xDE `DEC a,X` (R166, R138). -/
def execDecAbsx (aa : Word) (s : State) : Outcome := chargeCycles (decWith 0xDE (modeAbsx .dec aa s) s)

/-! ## INX, INY, DEX, DEY -/

/-- R167, R169: `X` stepped by `dir` at the index width. -/
def stepX (dir : Word) (s : State) : State :=
  let r := truncTo s.wX (s.readX s.wX + dir)
  (s.setX s.wX r).setNZ s.wX r

/-- R168, R170: `Y` stepped by `dir` at the index width. -/
def stepY (dir : Word) (s : State) : State :=
  let r := truncTo s.wX (s.readY s.wX + dir)
  (s.setY s.wX r).setNZ s.wX r

/-- R167: INX, its opcode byte and the mode given. -/
def inxWith (op : Byte) (f : Formed Unit) (s : State) (P : Parameters := .std) : Counted := implied op f (stepX 1) s P

/-- 0xE8 `INX` (R167, R124). -/
def execInx (s : State) : Outcome := chargeCycles (inxWith 0xE8 modeImp s)

/-- R168: INY, its opcode byte and the mode given. -/
def inyWith (op : Byte) (f : Formed Unit) (s : State) (P : Parameters := .std) : Counted := implied op f (stepY 1) s P

/-- 0xC8 `INY` (R168, R124). -/
def execIny (s : State) : Outcome := chargeCycles (inyWith 0xC8 modeImp s)

/-- R169: DEX, its opcode byte and the mode given. -/
def dexWith (op : Byte) (f : Formed Unit) (s : State) (P : Parameters := .std) : Counted :=
  implied op f (stepX (-1)) s P

/-- 0xCA `DEX` (R169, R124). -/
def execDex (s : State) : Outcome := chargeCycles (dexWith 0xCA modeImp s)

/-- R170: DEY, its opcode byte and the mode given. -/
def deyWith (op : Byte) (f : Formed Unit) (s : State) (P : Parameters := .std) : Counted :=
  implied op f (stepY (-1)) s P

/-- 0x88 `DEY` (R170, R124). -/
def execDey (s : State) : Outcome := chargeCycles (deyWith 0x88 modeImp s)

end Sys2Proof.Machine
end

