-- ==== Sys2Proof/Machine/Compare.lean ====
section
/-! DEFINITION. The compare operators (43_compare.md): CMP, CPX, CPY. -/

namespace Sys2Proof.Machine

/-- R200 `Compare(w, reg, loc)`: the flags of `reg − operand`, always binary. -/
def compare (w : Width) (reg : Word) (loc : Loc) (s : State) : State :=
  let r := subBin w reg (s.locRead loc w) true
  (s.setFlag maskC r.carry).setNZ w r.value

/-- R201: the operator of CMP. -/
def opCmp (loc : Loc) (s : State) : State := compare s.wM (s.readA s.wM) loc s

/-- CMP in any mode: the width cycle and the operator (R364, R365). -/
def cmpWith (op : Byte) (f : Formed Loc) (s : State) (P : Parameters := .std) : Counted :=
  complete op f.adj (extraRead s.flagM f.operand) (opCmp f.operand (s.advance f.len)) P

/-- 0xC1 `CMP (d,X)` (R201, R133). -/
def execCmpIdpx (dd : Byte) (s : State) : Outcome := chargeCycles (cmpWith 0xC1 (modeIdpx dd s) s)

/-- 0xC3 `CMP d,S` (R201, R142). -/
def execCmpSr (sr : Byte) (s : State) : Outcome := chargeCycles (cmpWith 0xC3 (modeSr sr s) s)

/-- 0xC5 `CMP d` (R201, R129). -/
def execCmpDp (dd : Byte) (s : State) : Outcome := chargeCycles (cmpWith 0xC5 (modeDp dd s) s)

/-- 0xC7 `CMP [d]` (R201, R135). -/
def execCmpIldp (dd : Byte) (s : State) : Outcome := chargeCycles (cmpWith 0xC7 (modeIldp dd s) s)

/-- 0xC9 `CMP #m`, m=1 (R201, R126). -/
def execCmpImmM8 (v : Byte) (s : State) : Outcome := chargeCycles (cmpWith 0xC9 (modeImmM8 v s) s)

/-- 0xC9 `CMP #m`, m=0 (R201, R126). -/
def execCmpImmM16 (v : Word) (s : State) : Outcome := chargeCycles (cmpWith 0xC9 (modeImmM16 v s) s)

/-- 0xCD `CMP a` (R201, R137). -/
def execCmpAbs (aa : Word) (s : State) : Outcome := chargeCycles (cmpWith 0xCD (modeAbs aa s) s)

/-- 0xCF `CMP al` (R201, R140). -/
def execCmpLong (al : Addr) (s : State) : Outcome := chargeCycles (cmpWith 0xCF (modeLong al) s)

/-- 0xD1 `CMP (d),Y` (R201, R134). -/
def execCmpIdpy (dd : Byte) (s : State) : Outcome := chargeCycles (cmpWith 0xD1 (modeIdpy .cmp dd s) s)

/-- 0xD2 `CMP (d)` (R201, R132). -/
def execCmpIdp (dd : Byte) (s : State) : Outcome := chargeCycles (cmpWith 0xD2 (modeIdp dd s) s)

/-- 0xD3 `CMP (d,S),Y` (R201, R143). -/
def execCmpIsry (sr : Byte) (s : State) : Outcome := chargeCycles (cmpWith 0xD3 (modeIsry sr s) s)

/-- 0xD5 `CMP d,X` (R201, R130). -/
def execCmpDpx (dd : Byte) (s : State) : Outcome := chargeCycles (cmpWith 0xD5 (modeDpx dd s) s)

/-- 0xD7 `CMP [d],Y` (R201, R136). -/
def execCmpIldpy (dd : Byte) (s : State) : Outcome := chargeCycles (cmpWith 0xD7 (modeIldpy dd s) s)

/-- 0xD9 `CMP a,Y` (R201, R139). -/
def execCmpAbsy (aa : Word) (s : State) : Outcome := chargeCycles (cmpWith 0xD9 (modeAbsy .cmp aa s) s)

/-- 0xDD `CMP a,X` (R201, R138). -/
def execCmpAbsx (aa : Word) (s : State) : Outcome := chargeCycles (cmpWith 0xDD (modeAbsx .cmp aa s) s)

/-- 0xDF `CMP al,X` (R201, R141). -/
def execCmpLongx (al : Addr) (s : State) : Outcome := chargeCycles (cmpWith 0xDF (modeLongx al s) s)

/-- R202: the operator of CPX. -/
def opCpx (loc : Loc) (s : State) : State := compare s.wX (s.readX s.wX) loc s

/-- CPX in any mode: the width cycle and the operator (R364, R365). -/
def cpxWith (op : Byte) (f : Formed Loc) (s : State) (P : Parameters := .std) : Counted :=
  complete op f.adj (extraRead s.flagX f.operand) (opCpx f.operand (s.advance f.len)) P

/-- 0xE0 `CPX #x`, x=1 (R202, R127). -/
def execCpxImmX8 (v : Byte) (s : State) : Outcome := chargeCycles (cpxWith 0xE0 (modeImmX8 v s) s)

/-- 0xE0 `CPX #x`, x=0 (R202, R127). -/
def execCpxImmX16 (v : Word) (s : State) : Outcome := chargeCycles (cpxWith 0xE0 (modeImmX16 v s) s)

/-- 0xE4 `CPX d` (R202, R129). -/
def execCpxDp (dd : Byte) (s : State) : Outcome := chargeCycles (cpxWith 0xE4 (modeDp dd s) s)

/-- 0xEC `CPX a` (R202, R137). -/
def execCpxAbs (aa : Word) (s : State) : Outcome := chargeCycles (cpxWith 0xEC (modeAbs aa s) s)

/-- R203: the operator of CPY. -/
def opCpy (loc : Loc) (s : State) : State := compare s.wX (s.readY s.wX) loc s

/-- CPY in any mode: the width cycle and the operator (R364, R365). -/
def cpyWith (op : Byte) (f : Formed Loc) (s : State) (P : Parameters := .std) : Counted :=
  complete op f.adj (extraRead s.flagX f.operand) (opCpy f.operand (s.advance f.len)) P

/-- 0xC0 `CPY #x`, x=1 (R203, R127). -/
def execCpyImmX8 (v : Byte) (s : State) : Outcome := chargeCycles (cpyWith 0xC0 (modeImmX8 v s) s)

/-- 0xC0 `CPY #x`, x=0 (R203, R127). -/
def execCpyImmX16 (v : Word) (s : State) : Outcome := chargeCycles (cpyWith 0xC0 (modeImmX16 v s) s)

/-- 0xC4 `CPY d` (R203, R129). -/
def execCpyDp (dd : Byte) (s : State) : Outcome := chargeCycles (cpyWith 0xC4 (modeDp dd s) s)

/-- 0xCC `CPY a` (R203, R137). -/
def execCpyAbs (aa : Word) (s : State) : Outcome := chargeCycles (cpyWith 0xCC (modeAbs aa s) s)

end Sys2Proof.Machine
end

