-- ==== Sys2Proof/Machine/Control.lean ====
section
/-! DEFINITION. The control-flow operators (45_control_flow.md): JMP, JML, JSR, JSL, RTS, RTL, RTI, the branches, BRL, BRK, COP. -/

namespace Sys2Proof.Machine

/-! ## Jumps -/

/-- R251: JMP in any mode; `PBR` is kept. -/
def jmpWith (op : Byte) (f : Formed Word) (s : State) (P : Parameters := .std) : Counted :=
  complete op f.adj 0 ((s.advance f.len).setPc f.operand) P

/-- 0x4C `JMP a` (R251, R151). -/
def execJmpPabs (aa : Word) (s : State) : Outcome := chargeCycles (jmpWith 0x4C (modePabs aa) s)

/-- 0x6C `JMP (a)` (R251, R146). -/
def execJmpIabs (aa : Word) (s : State) : Outcome := chargeCycles (jmpWith 0x6C (modeIabs aa s) s)

/-- 0x7C `JMP (a,X)` (R251, R147). -/
def execJmpIabsx (aa : Word) (s : State) : Outcome := chargeCycles (jmpWith 0x7C (modeIabsx aa s) s)

/-- R252: JML in any mode. -/
def jmlWith (op : Byte) (f : Formed Addr) (s : State) (P : Parameters := .std) : Counted :=
  complete op f.adj 0 (((s.advance f.len).setPbr (bankOf f.operand)).setPc (offOf f.operand)) P

/-- 0x5C `JML al` (R252, R151). -/
def execJmlPlong (al : Addr) (s : State) : Outcome := chargeCycles (jmlWith 0x5C (modePlong al) s)

/-- 0xDC `JML [a]` (R252, R148). -/
def execJmlIlabs (aa : Word) (s : State) : Outcome := chargeCycles (jmlWith 0xDC (modeIlabs aa s) s)

/-! ## Calls and returns -/

/-- R253: JSR in any mode: the offset of its own last byte is pushed; the target was formed before the push. -/
def jsrWith (op : Byte) (f : Formed Word) (s : State) (P : Parameters := .std) : Counted :=
  complete op f.adj 0 (((s.advance f.len).push16 (s.pc + 2)).setPc f.operand) P

/-- 0x20 `JSR a` (R253, R151). -/
def execJsrPabs (aa : Word) (s : State) : Outcome := chargeCycles (jsrWith 0x20 (modePabs aa) s)

/-- 0xFC `JSR (a,X)` (R253, R147). -/
def execJsrIabsx (aa : Word) (s : State) : Outcome := chargeCycles (jsrWith 0xFC (modeIabsx aa s) s)

/-- R254: JSL in any mode: `PBR` and the offset of its own last byte are pushed, in both modes of the machine. -/
def jslWith (op : Byte) (f : Formed Addr) (s : State) (P : Parameters := .std) : Counted :=
  complete op f.adj 0
    (((((s.advance f.len).push8 s.pbr).push16 (s.pc + 3)).setPbr (bankOf f.operand)).setPc (offOf f.operand)) P

/-- 0x22 `JSL al` (R254, R151). -/
def execJsl (al : Addr) (s : State) : Outcome := chargeCycles (jslWith 0x22 (modePlong al) s)

/-- R255: the operator of RTS. -/
def opRts (s : State) : State := s.pull16.2.setPc (s.pull16.1 + 1)

/-- R255: RTS, its opcode byte and the mode given. -/
def rtsWith (op : Byte) (f : Formed Unit) (s : State) (P : Parameters := .std) : Counted := stacked op f 0 opRts s P

/-- 0x60 `RTS` (R255, R124). -/
def execRts (s : State) : Outcome := chargeCycles (rtsWith 0x60 modeImp s)

/-- R256: the operator of RTL; the `+ 1` does not carry into the bank. -/
def opRtl (s : State) : State := (s.pull24.2.setPbr (bankOf s.pull24.1)).setPc (offOf s.pull24.1 + 1)

/-- R256: RTL, its opcode byte and the mode given. -/
def rtlWith (op : Byte) (f : Formed Unit) (s : State) (P : Parameters := .std) : Counted := stacked op f 0 opRtl s P

/-- 0x6B `RTL` (R256, R124). -/
def execRtl (s : State) : Outcome := chargeCycles (rtlWith 0x6B modeImp s)

/-- R257, R365 `e0`: one cycle more in native mode. -/
def nativePen (s : State) : Int := if s.e then 0 else 1

/-- R257: RTI, its opcode byte and the mode given. -/
def rtiWith (op : Byte) (f : Formed Unit) (s : State) (P : Parameters := .std) : Counted :=
  stacked op f (nativePen s) State.returnFromTrap s P

/-- 0x40 `RTI` (R257, R124). -/
def execRti (s : State) : Outcome := chargeCycles (rtiWith 0x40 modeImp s)

/-! ## Branches -/

/-- R258: the extra cycles of a taken branch. -/
def takenPen (s : State) (f : Formed Word) : Int :=
  if s.e && pageCrossed (s.advance f.len).pc f.operand then 2 else 1

/-- R258 `Branch(cond)`. -/
def branchWith (op : Byte) (taken : Bool) (f : Formed Word) (s : State) (P : Parameters := .std) : Counted :=
  if taken then complete op f.adj (takenPen s f) ((s.advance f.len).setPc f.operand) P
  else complete op f.adj 0 (s.advance f.len) P

/-- 0x80 `BRA r8` (R259, R144). -/
def execBra (disp : Byte) (s : State) : Outcome := chargeCycles (branchWith 0x80 true (modeRel8 disp s) s)

/-- 0x90 `BCC r8` (R260, R144). -/
def execBcc (disp : Byte) (s : State) : Outcome := chargeCycles (branchWith 0x90 (!s.flagC) (modeRel8 disp s) s)

/-- 0xB0 `BCS r8` (R261, R144). -/
def execBcs (disp : Byte) (s : State) : Outcome := chargeCycles (branchWith 0xB0 s.flagC (modeRel8 disp s) s)

/-- 0xF0 `BEQ r8` (R262, R144). -/
def execBeq (disp : Byte) (s : State) : Outcome := chargeCycles (branchWith 0xF0 s.flagZ (modeRel8 disp s) s)

/-- 0xD0 `BNE r8` (R263, R144). -/
def execBne (disp : Byte) (s : State) : Outcome := chargeCycles (branchWith 0xD0 (!s.flagZ) (modeRel8 disp s) s)

/-- 0x30 `BMI r8` (R264, R144). -/
def execBmi (disp : Byte) (s : State) : Outcome := chargeCycles (branchWith 0x30 s.flagN (modeRel8 disp s) s)

/-- 0x10 `BPL r8` (R265, R144). -/
def execBpl (disp : Byte) (s : State) : Outcome := chargeCycles (branchWith 0x10 (!s.flagN) (modeRel8 disp s) s)

/-- 0x50 `BVC r8` (R266, R144). -/
def execBvc (disp : Byte) (s : State) : Outcome := chargeCycles (branchWith 0x50 (!s.flagV) (modeRel8 disp s) s)

/-- 0x70 `BVS r8` (R267, R144). -/
def execBvs (disp : Byte) (s : State) : Outcome := chargeCycles (branchWith 0x70 s.flagV (modeRel8 disp s) s)

/-- R268: BRL; no taken or page penalty. -/
def brlWith (op : Byte) (f : Formed Word) (s : State) (P : Parameters := .std) : Counted :=
  complete op f.adj 0 ((s.advance f.len).setPc f.operand) P

/-- 0x82 `BRL r16` (R268, R145). -/
def execBrl (disp : Word) (s : State) : Outcome := chargeCycles (brlWith 0x82 (modeRel16 disp s) s)

/-! ## Software interrupts -/

/-- R269, R270: a software interrupt through the vectors of its instruction; the return address skips the signature. -/
def trapWith (op : Byte) (vecN vecE : Addr) (f : Formed Unit) (s : State) (P : Parameters := .std) : Counted :=
  complete op f.adj (nativePen s) ((s.advance f.len).takeTrap vecN vecE (s.pc + 2)) P

/-- 0x00 `BRK #sig` (R269, R128). -/
def execBrk (sig : Byte) (s : State) : Outcome := chargeCycles (trapWith 0x00 Params.vecBrkN Params.vecBrkE (modeSig sig) s)

/-- 0x02 `COP #sig` (R270, R128). -/
def execCop (sig : Byte) (s : State) : Outcome := chargeCycles (trapWith 0x02 Params.vecCopN Params.vecCopE (modeSig sig) s)

end Sys2Proof.Machine
end

