-- ==== Sys2Proof/Machine/LoadStore.lean ====
section
/-! DEFINITION. The loads and stores (44_load_store_transfer.md): LDA, LDX, LDY, STA, STX, STY, STZ. -/

namespace Sys2Proof.Machine

/-! ## Loads -/

/-- R211: the operator of LDA. -/
def opLda (loc : Loc) (s : State) : State :=
  let v := s.locRead loc s.wM
  (s.setA s.wM v).setNZ s.wM v

/-- LDA in any mode: the width cycle and the operator (R364, R365). -/
def ldaWith (op : Byte) (f : Formed Loc) (s : State) (P : Parameters := .std) : Counted :=
  complete op f.adj (extraRead s.flagM f.operand) (opLda f.operand (s.advance f.len)) P

/-- 0xA1 `LDA (d,X)` (R211, R133). -/
def execLdaIdpx (dd : Byte) (s : State) : Outcome := chargeCycles (ldaWith 0xA1 (modeIdpx dd s) s)

/-- 0xA3 `LDA d,S` (R211, R142). -/
def execLdaSr (sr : Byte) (s : State) : Outcome := chargeCycles (ldaWith 0xA3 (modeSr sr s) s)

/-- 0xA5 `LDA d` (R211, R129). -/
def execLdaDp (dd : Byte) (s : State) : Outcome := chargeCycles (ldaWith 0xA5 (modeDp dd s) s)

/-- 0xA7 `LDA [d]` (R211, R135). -/
def execLdaIldp (dd : Byte) (s : State) : Outcome := chargeCycles (ldaWith 0xA7 (modeIldp dd s) s)

/-- 0xA9 `LDA #m`, m=1 (R211, R126). -/
def execLdaImmM8 (v : Byte) (s : State) : Outcome := chargeCycles (ldaWith 0xA9 (modeImmM8 v s) s)

/-- 0xA9 `LDA #m`, m=0 (R211, R126). -/
def execLdaImmM16 (v : Word) (s : State) : Outcome := chargeCycles (ldaWith 0xA9 (modeImmM16 v s) s)

/-- 0xAD `LDA a` (R211, R137). -/
def execLdaAbs (aa : Word) (s : State) : Outcome := chargeCycles (ldaWith 0xAD (modeAbs aa s) s)

/-- 0xAF `LDA al` (R211, R140). -/
def execLdaLong (al : Addr) (s : State) : Outcome := chargeCycles (ldaWith 0xAF (modeLong al) s)

/-- 0xB1 `LDA (d),Y` (R211, R134). -/
def execLdaIdpy (dd : Byte) (s : State) : Outcome := chargeCycles (ldaWith 0xB1 (modeIdpy .lda dd s) s)

/-- 0xB2 `LDA (d)` (R211, R132). -/
def execLdaIdp (dd : Byte) (s : State) : Outcome := chargeCycles (ldaWith 0xB2 (modeIdp dd s) s)

/-- 0xB3 `LDA (d,S),Y` (R211, R143). -/
def execLdaIsry (sr : Byte) (s : State) : Outcome := chargeCycles (ldaWith 0xB3 (modeIsry sr s) s)

/-- 0xB5 `LDA d,X` (R211, R130). -/
def execLdaDpx (dd : Byte) (s : State) : Outcome := chargeCycles (ldaWith 0xB5 (modeDpx dd s) s)

/-- 0xB7 `LDA [d],Y` (R211, R136). -/
def execLdaIldpy (dd : Byte) (s : State) : Outcome := chargeCycles (ldaWith 0xB7 (modeIldpy dd s) s)

/-- 0xB9 `LDA a,Y` (R211, R139). -/
def execLdaAbsy (aa : Word) (s : State) : Outcome := chargeCycles (ldaWith 0xB9 (modeAbsy .lda aa s) s)

/-- 0xBD `LDA a,X` (R211, R138). -/
def execLdaAbsx (aa : Word) (s : State) : Outcome := chargeCycles (ldaWith 0xBD (modeAbsx .lda aa s) s)

/-- 0xBF `LDA al,X` (R211, R141). -/
def execLdaLongx (al : Addr) (s : State) : Outcome := chargeCycles (ldaWith 0xBF (modeLongx al s) s)

/-- R212: the operator of LDX. -/
def opLdx (loc : Loc) (s : State) : State :=
  let v := s.locRead loc s.wX
  (s.setX s.wX v).setNZ s.wX v

/-- LDX in any mode: the width cycle and the operator (R364, R365). -/
def ldxWith (op : Byte) (f : Formed Loc) (s : State) (P : Parameters := .std) : Counted :=
  complete op f.adj (extraRead s.flagX f.operand) (opLdx f.operand (s.advance f.len)) P

/-- 0xA2 `LDX #x`, x=1 (R212, R127). -/
def execLdxImmX8 (v : Byte) (s : State) : Outcome := chargeCycles (ldxWith 0xA2 (modeImmX8 v s) s)

/-- 0xA2 `LDX #x`, x=0 (R212, R127). -/
def execLdxImmX16 (v : Word) (s : State) : Outcome := chargeCycles (ldxWith 0xA2 (modeImmX16 v s) s)

/-- 0xA6 `LDX d` (R212, R129). -/
def execLdxDp (dd : Byte) (s : State) : Outcome := chargeCycles (ldxWith 0xA6 (modeDp dd s) s)

/-- 0xAE `LDX a` (R212, R137). -/
def execLdxAbs (aa : Word) (s : State) : Outcome := chargeCycles (ldxWith 0xAE (modeAbs aa s) s)

/-- 0xB6 `LDX d,Y` (R212, R131). -/
def execLdxDpy (dd : Byte) (s : State) : Outcome := chargeCycles (ldxWith 0xB6 (modeDpy dd s) s)

/-- 0xBE `LDX a,Y` (R212, R139). -/
def execLdxAbsy (aa : Word) (s : State) : Outcome := chargeCycles (ldxWith 0xBE (modeAbsy .ldx aa s) s)

/-- R213: the operator of LDY. -/
def opLdy (loc : Loc) (s : State) : State :=
  let v := s.locRead loc s.wX
  (s.setY s.wX v).setNZ s.wX v

/-- LDY in any mode: the width cycle and the operator (R364, R365). -/
def ldyWith (op : Byte) (f : Formed Loc) (s : State) (P : Parameters := .std) : Counted :=
  complete op f.adj (extraRead s.flagX f.operand) (opLdy f.operand (s.advance f.len)) P

/-- 0xA0 `LDY #x`, x=1 (R213, R127). -/
def execLdyImmX8 (v : Byte) (s : State) : Outcome := chargeCycles (ldyWith 0xA0 (modeImmX8 v s) s)

/-- 0xA0 `LDY #x`, x=0 (R213, R127). -/
def execLdyImmX16 (v : Word) (s : State) : Outcome := chargeCycles (ldyWith 0xA0 (modeImmX16 v s) s)

/-- 0xA4 `LDY d` (R213, R129). -/
def execLdyDp (dd : Byte) (s : State) : Outcome := chargeCycles (ldyWith 0xA4 (modeDp dd s) s)

/-- 0xAC `LDY a` (R213, R137). -/
def execLdyAbs (aa : Word) (s : State) : Outcome := chargeCycles (ldyWith 0xAC (modeAbs aa s) s)

/-- 0xB4 `LDY d,X` (R213, R130). -/
def execLdyDpx (dd : Byte) (s : State) : Outcome := chargeCycles (ldyWith 0xB4 (modeDpx dd s) s)

/-- 0xBC `LDY a,X` (R213, R138). -/
def execLdyAbsx (aa : Word) (s : State) : Outcome := chargeCycles (ldyWith 0xBC (modeAbsx .ldy aa s) s)

/-! ## Stores -/

/-- R214: the operator of STA; no flag changes. -/
def opSta (loc : Loc) (s : State) : Except Refusal State := s.locWrite loc s.wM (s.readA s.wM)

/-- STA in any mode: the width cycle and the store (R364, R365). -/
def staWith (op : Byte) (f : Formed Loc) (s : State) (P : Parameters := .std) : Counted :=
  completeWrite op f.adj (extraRead s.flagM f.operand) (opSta f.operand (s.advance f.len)) P

/-- 0x81 `STA (d,X)` (R214, R133). -/
def execStaIdpx (dd : Byte) (s : State) : Outcome := chargeCycles (staWith 0x81 (modeIdpx dd s) s)

/-- 0x83 `STA d,S` (R214, R142). -/
def execStaSr (sr : Byte) (s : State) : Outcome := chargeCycles (staWith 0x83 (modeSr sr s) s)

/-- 0x85 `STA d` (R214, R129). -/
def execStaDp (dd : Byte) (s : State) : Outcome := chargeCycles (staWith 0x85 (modeDp dd s) s)

/-- 0x87 `STA [d]` (R214, R135). -/
def execStaIldp (dd : Byte) (s : State) : Outcome := chargeCycles (staWith 0x87 (modeIldp dd s) s)

/-- 0x8D `STA a` (R214, R137). -/
def execStaAbs (aa : Word) (s : State) : Outcome := chargeCycles (staWith 0x8D (modeAbs aa s) s)

/-- 0x8F `STA al` (R214, R140). -/
def execStaLong (al : Addr) (s : State) : Outcome := chargeCycles (staWith 0x8F (modeLong al) s)

/-- 0x91 `STA (d),Y` (R214, R134). -/
def execStaIdpy (dd : Byte) (s : State) : Outcome := chargeCycles (staWith 0x91 (modeIdpy .sta dd s) s)

/-- 0x92 `STA (d)` (R214, R132). -/
def execStaIdp (dd : Byte) (s : State) : Outcome := chargeCycles (staWith 0x92 (modeIdp dd s) s)

/-- 0x93 `STA (d,S),Y` (R214, R143). -/
def execStaIsry (sr : Byte) (s : State) : Outcome := chargeCycles (staWith 0x93 (modeIsry sr s) s)

/-- 0x95 `STA d,X` (R214, R130). -/
def execStaDpx (dd : Byte) (s : State) : Outcome := chargeCycles (staWith 0x95 (modeDpx dd s) s)

/-- 0x97 `STA [d],Y` (R214, R136). -/
def execStaIldpy (dd : Byte) (s : State) : Outcome := chargeCycles (staWith 0x97 (modeIldpy dd s) s)

/-- 0x99 `STA a,Y` (R214, R139). -/
def execStaAbsy (aa : Word) (s : State) : Outcome := chargeCycles (staWith 0x99 (modeAbsy .sta aa s) s)

/-- 0x9D `STA a,X` (R214, R138). -/
def execStaAbsx (aa : Word) (s : State) : Outcome := chargeCycles (staWith 0x9D (modeAbsx .sta aa s) s)

/-- 0x9F `STA al,X` (R214, R141). -/
def execStaLongx (al : Addr) (s : State) : Outcome := chargeCycles (staWith 0x9F (modeLongx al s) s)

/-- R215: the operator of STX; no flag changes. -/
def opStx (loc : Loc) (s : State) : Except Refusal State := s.locWrite loc s.wX (s.readX s.wX)

/-- STX in any mode: the width cycle and the store (R364, R365). -/
def stxWith (op : Byte) (f : Formed Loc) (s : State) (P : Parameters := .std) : Counted :=
  completeWrite op f.adj (extraRead s.flagX f.operand) (opStx f.operand (s.advance f.len)) P

/-- 0x86 `STX d` (R215, R129). -/
def execStxDp (dd : Byte) (s : State) : Outcome := chargeCycles (stxWith 0x86 (modeDp dd s) s)

/-- 0x8E `STX a` (R215, R137). -/
def execStxAbs (aa : Word) (s : State) : Outcome := chargeCycles (stxWith 0x8E (modeAbs aa s) s)

/-- 0x96 `STX d,Y` (R215, R131). -/
def execStxDpy (dd : Byte) (s : State) : Outcome := chargeCycles (stxWith 0x96 (modeDpy dd s) s)

/-- R216: the operator of STY; no flag changes. -/
def opSty (loc : Loc) (s : State) : Except Refusal State := s.locWrite loc s.wX (s.readY s.wX)

/-- STY in any mode: the width cycle and the store (R364, R365). -/
def styWith (op : Byte) (f : Formed Loc) (s : State) (P : Parameters := .std) : Counted :=
  completeWrite op f.adj (extraRead s.flagX f.operand) (opSty f.operand (s.advance f.len)) P

/-- 0x84 `STY d` (R216, R129). -/
def execStyDp (dd : Byte) (s : State) : Outcome := chargeCycles (styWith 0x84 (modeDp dd s) s)

/-- 0x8C `STY a` (R216, R137). -/
def execStyAbs (aa : Word) (s : State) : Outcome := chargeCycles (styWith 0x8C (modeAbs aa s) s)

/-- 0x94 `STY d,X` (R216, R130). -/
def execStyDpx (dd : Byte) (s : State) : Outcome := chargeCycles (styWith 0x94 (modeDpx dd s) s)

/-- R217: the operator of STZ; no flag changes. -/
def opStz (loc : Loc) (s : State) : Except Refusal State := s.locWrite loc s.wM 0

/-- STZ in any mode: the width cycle and the store (R364, R365). -/
def stzWith (op : Byte) (f : Formed Loc) (s : State) (P : Parameters := .std) : Counted :=
  completeWrite op f.adj (extraRead s.flagM f.operand) (opStz f.operand (s.advance f.len)) P

/-- 0x64 `STZ d` (R217, R129). -/
def execStzDp (dd : Byte) (s : State) : Outcome := chargeCycles (stzWith 0x64 (modeDp dd s) s)

/-- 0x74 `STZ d,X` (R217, R130). -/
def execStzDpx (dd : Byte) (s : State) : Outcome := chargeCycles (stzWith 0x74 (modeDpx dd s) s)

/-- 0x9C `STZ a` (R217, R137). -/
def execStzAbs (aa : Word) (s : State) : Outcome := chargeCycles (stzWith 0x9C (modeAbs aa s) s)

/-- 0x9E `STZ a,X` (R217, R138). -/
def execStzAbsx (aa : Word) (s : State) : Outcome := chargeCycles (stzWith 0x9E (modeAbsx .stz aa s) s)

end Sys2Proof.Machine
end

