-- ==== Sys2Proof/Machine/Logic.lean ====
section
/-! DEFINITION. The logical, bit-test, shift and rotate operators (42_logical_shift.md): AND, ORA, EOR, BIT, ASL, LSR, ROL, ROR,
TSB, TRB. -/

namespace Sys2Proof.Machine

/-! ## AND, ORA, EOR -/

/-- R181: the operator of AND. -/
def opAnd (loc : Loc) (s : State) : State :=
  let r := s.readA s.wM &&& s.locRead loc s.wM
  (s.setA s.wM r).setNZ s.wM r

/-- AND in any mode: the width cycle and the operator (R364, R365). -/
def andWith (op : Byte) (f : Formed Loc) (s : State) (P : Parameters := .std) : Counted :=
  complete op f.adj (extraRead s.flagM f.operand) (opAnd f.operand (s.advance f.len)) P

/-- 0x21 `AND (d,X)` (R181, R133). -/
def execAndIdpx (dd : Byte) (s : State) : Outcome := chargeCycles (andWith 0x21 (modeIdpx dd s) s)

/-- 0x23 `AND d,S` (R181, R142). -/
def execAndSr (sr : Byte) (s : State) : Outcome := chargeCycles (andWith 0x23 (modeSr sr s) s)

/-- 0x25 `AND d` (R181, R129). -/
def execAndDp (dd : Byte) (s : State) : Outcome := chargeCycles (andWith 0x25 (modeDp dd s) s)

/-- 0x27 `AND [d]` (R181, R135). -/
def execAndIldp (dd : Byte) (s : State) : Outcome := chargeCycles (andWith 0x27 (modeIldp dd s) s)

/-- 0x29 `AND #m`, m=1 (R181, R126). -/
def execAndImmM8 (v : Byte) (s : State) : Outcome := chargeCycles (andWith 0x29 (modeImmM8 v s) s)

/-- 0x29 `AND #m`, m=0 (R181, R126). -/
def execAndImmM16 (v : Word) (s : State) : Outcome := chargeCycles (andWith 0x29 (modeImmM16 v s) s)

/-- 0x2D `AND a` (R181, R137). -/
def execAndAbs (aa : Word) (s : State) : Outcome := chargeCycles (andWith 0x2D (modeAbs aa s) s)

/-- 0x2F `AND al` (R181, R140). -/
def execAndLong (al : Addr) (s : State) : Outcome := chargeCycles (andWith 0x2F (modeLong al) s)

/-- 0x31 `AND (d),Y` (R181, R134). -/
def execAndIdpy (dd : Byte) (s : State) : Outcome := chargeCycles (andWith 0x31 (modeIdpy .and dd s) s)

/-- 0x32 `AND (d)` (R181, R132). -/
def execAndIdp (dd : Byte) (s : State) : Outcome := chargeCycles (andWith 0x32 (modeIdp dd s) s)

/-- 0x33 `AND (d,S),Y` (R181, R143). -/
def execAndIsry (sr : Byte) (s : State) : Outcome := chargeCycles (andWith 0x33 (modeIsry sr s) s)

/-- 0x35 `AND d,X` (R181, R130). -/
def execAndDpx (dd : Byte) (s : State) : Outcome := chargeCycles (andWith 0x35 (modeDpx dd s) s)

/-- 0x37 `AND [d],Y` (R181, R136). -/
def execAndIldpy (dd : Byte) (s : State) : Outcome := chargeCycles (andWith 0x37 (modeIldpy dd s) s)

/-- 0x39 `AND a,Y` (R181, R139). -/
def execAndAbsy (aa : Word) (s : State) : Outcome := chargeCycles (andWith 0x39 (modeAbsy .and aa s) s)

/-- 0x3D `AND a,X` (R181, R138). -/
def execAndAbsx (aa : Word) (s : State) : Outcome := chargeCycles (andWith 0x3D (modeAbsx .and aa s) s)

/-- 0x3F `AND al,X` (R181, R141). -/
def execAndLongx (al : Addr) (s : State) : Outcome := chargeCycles (andWith 0x3F (modeLongx al s) s)

/-- R182: the operator of ORA. -/
def opOra (loc : Loc) (s : State) : State :=
  let r := s.readA s.wM ||| s.locRead loc s.wM
  (s.setA s.wM r).setNZ s.wM r

/-- ORA in any mode: the width cycle and the operator (R364, R365). -/
def oraWith (op : Byte) (f : Formed Loc) (s : State) (P : Parameters := .std) : Counted :=
  complete op f.adj (extraRead s.flagM f.operand) (opOra f.operand (s.advance f.len)) P

/-- 0x01 `ORA (d,X)` (R182, R133). -/
def execOraIdpx (dd : Byte) (s : State) : Outcome := chargeCycles (oraWith 0x01 (modeIdpx dd s) s)

/-- 0x03 `ORA d,S` (R182, R142). -/
def execOraSr (sr : Byte) (s : State) : Outcome := chargeCycles (oraWith 0x03 (modeSr sr s) s)

/-- 0x05 `ORA d` (R182, R129). -/
def execOraDp (dd : Byte) (s : State) : Outcome := chargeCycles (oraWith 0x05 (modeDp dd s) s)

/-- 0x07 `ORA [d]` (R182, R135). -/
def execOraIldp (dd : Byte) (s : State) : Outcome := chargeCycles (oraWith 0x07 (modeIldp dd s) s)

/-- 0x09 `ORA #m`, m=1 (R182, R126). -/
def execOraImmM8 (v : Byte) (s : State) : Outcome := chargeCycles (oraWith 0x09 (modeImmM8 v s) s)

/-- 0x09 `ORA #m`, m=0 (R182, R126). -/
def execOraImmM16 (v : Word) (s : State) : Outcome := chargeCycles (oraWith 0x09 (modeImmM16 v s) s)

/-- 0x0D `ORA a` (R182, R137). -/
def execOraAbs (aa : Word) (s : State) : Outcome := chargeCycles (oraWith 0x0D (modeAbs aa s) s)

/-- 0x0F `ORA al` (R182, R140). -/
def execOraLong (al : Addr) (s : State) : Outcome := chargeCycles (oraWith 0x0F (modeLong al) s)

/-- 0x11 `ORA (d),Y` (R182, R134). -/
def execOraIdpy (dd : Byte) (s : State) : Outcome := chargeCycles (oraWith 0x11 (modeIdpy .ora dd s) s)

/-- 0x12 `ORA (d)` (R182, R132). -/
def execOraIdp (dd : Byte) (s : State) : Outcome := chargeCycles (oraWith 0x12 (modeIdp dd s) s)

/-- 0x13 `ORA (d,S),Y` (R182, R143). -/
def execOraIsry (sr : Byte) (s : State) : Outcome := chargeCycles (oraWith 0x13 (modeIsry sr s) s)

/-- 0x15 `ORA d,X` (R182, R130). -/
def execOraDpx (dd : Byte) (s : State) : Outcome := chargeCycles (oraWith 0x15 (modeDpx dd s) s)

/-- 0x17 `ORA [d],Y` (R182, R136). -/
def execOraIldpy (dd : Byte) (s : State) : Outcome := chargeCycles (oraWith 0x17 (modeIldpy dd s) s)

/-- 0x19 `ORA a,Y` (R182, R139). -/
def execOraAbsy (aa : Word) (s : State) : Outcome := chargeCycles (oraWith 0x19 (modeAbsy .ora aa s) s)

/-- 0x1D `ORA a,X` (R182, R138). -/
def execOraAbsx (aa : Word) (s : State) : Outcome := chargeCycles (oraWith 0x1D (modeAbsx .ora aa s) s)

/-- 0x1F `ORA al,X` (R182, R141). -/
def execOraLongx (al : Addr) (s : State) : Outcome := chargeCycles (oraWith 0x1F (modeLongx al s) s)

/-- R183: the operator of EOR. -/
def opEor (loc : Loc) (s : State) : State :=
  let r := s.readA s.wM ^^^ s.locRead loc s.wM
  (s.setA s.wM r).setNZ s.wM r

/-- EOR in any mode: the width cycle and the operator (R364, R365). -/
def eorWith (op : Byte) (f : Formed Loc) (s : State) (P : Parameters := .std) : Counted :=
  complete op f.adj (extraRead s.flagM f.operand) (opEor f.operand (s.advance f.len)) P

/-- 0x41 `EOR (d,X)` (R183, R133). -/
def execEorIdpx (dd : Byte) (s : State) : Outcome := chargeCycles (eorWith 0x41 (modeIdpx dd s) s)

/-- 0x43 `EOR d,S` (R183, R142). -/
def execEorSr (sr : Byte) (s : State) : Outcome := chargeCycles (eorWith 0x43 (modeSr sr s) s)

/-- 0x45 `EOR d` (R183, R129). -/
def execEorDp (dd : Byte) (s : State) : Outcome := chargeCycles (eorWith 0x45 (modeDp dd s) s)

/-- 0x47 `EOR [d]` (R183, R135). -/
def execEorIldp (dd : Byte) (s : State) : Outcome := chargeCycles (eorWith 0x47 (modeIldp dd s) s)

/-- 0x49 `EOR #m`, m=1 (R183, R126). -/
def execEorImmM8 (v : Byte) (s : State) : Outcome := chargeCycles (eorWith 0x49 (modeImmM8 v s) s)

/-- 0x49 `EOR #m`, m=0 (R183, R126). -/
def execEorImmM16 (v : Word) (s : State) : Outcome := chargeCycles (eorWith 0x49 (modeImmM16 v s) s)

/-- 0x4D `EOR a` (R183, R137). -/
def execEorAbs (aa : Word) (s : State) : Outcome := chargeCycles (eorWith 0x4D (modeAbs aa s) s)

/-- 0x4F `EOR al` (R183, R140). -/
def execEorLong (al : Addr) (s : State) : Outcome := chargeCycles (eorWith 0x4F (modeLong al) s)

/-- 0x51 `EOR (d),Y` (R183, R134). -/
def execEorIdpy (dd : Byte) (s : State) : Outcome := chargeCycles (eorWith 0x51 (modeIdpy .eor dd s) s)

/-- 0x52 `EOR (d)` (R183, R132). -/
def execEorIdp (dd : Byte) (s : State) : Outcome := chargeCycles (eorWith 0x52 (modeIdp dd s) s)

/-- 0x53 `EOR (d,S),Y` (R183, R143). -/
def execEorIsry (sr : Byte) (s : State) : Outcome := chargeCycles (eorWith 0x53 (modeIsry sr s) s)

/-- 0x55 `EOR d,X` (R183, R130). -/
def execEorDpx (dd : Byte) (s : State) : Outcome := chargeCycles (eorWith 0x55 (modeDpx dd s) s)

/-- 0x57 `EOR [d],Y` (R183, R136). -/
def execEorIldpy (dd : Byte) (s : State) : Outcome := chargeCycles (eorWith 0x57 (modeIldpy dd s) s)

/-- 0x59 `EOR a,Y` (R183, R139). -/
def execEorAbsy (aa : Word) (s : State) : Outcome := chargeCycles (eorWith 0x59 (modeAbsy .eor aa s) s)

/-- 0x5D `EOR a,X` (R183, R138). -/
def execEorAbsx (aa : Word) (s : State) : Outcome := chargeCycles (eorWith 0x5D (modeAbsx .eor aa s) s)

/-- 0x5F `EOR al,X` (R183, R141). -/
def execEorLongx (al : Addr) (s : State) : Outcome := chargeCycles (eorWith 0x5F (modeLongx al s) s)

/-! ## BIT -/

/-- R184: the operator of BIT; the immediate form writes z only. -/
def opBit (loc : Loc) (s : State) : State :=
  let b := s.locRead loc s.wM
  let tested := s.setFlag maskZ (decide (s.readA s.wM &&& b = 0))
  if loc.isImm then tested
  else (tested.setFlag maskN (msbOf s.wM b)).setFlag maskV (b.getLsbD (s.wM.bits - 2))

/-- BIT in any mode: the width cycle and the operator (R364, R365). -/
def bitWith (op : Byte) (f : Formed Loc) (s : State) (P : Parameters := .std) : Counted :=
  complete op f.adj (extraRead s.flagM f.operand) (opBit f.operand (s.advance f.len)) P

/-- 0x24 `BIT d` (R184, R129). -/
def execBitDp (dd : Byte) (s : State) : Outcome := chargeCycles (bitWith 0x24 (modeDp dd s) s)

/-- 0x2C `BIT a` (R184, R137). -/
def execBitAbs (aa : Word) (s : State) : Outcome := chargeCycles (bitWith 0x2C (modeAbs aa s) s)

/-- 0x34 `BIT d,X` (R184, R130). -/
def execBitDpx (dd : Byte) (s : State) : Outcome := chargeCycles (bitWith 0x34 (modeDpx dd s) s)

/-- 0x3C `BIT a,X` (R184, R138). -/
def execBitAbsx (aa : Word) (s : State) : Outcome := chargeCycles (bitWith 0x3C (modeAbsx .bit aa s) s)

/-- 0x89 `BIT #m`, m=1 (R184, R126). -/
def execBitImmM8 (v : Byte) (s : State) : Outcome := chargeCycles (bitWith 0x89 (modeImmM8 v s) s)

/-- 0x89 `BIT #m`, m=0 (R184, R126). -/
def execBitImmM16 (v : Word) (s : State) : Outcome := chargeCycles (bitWith 0x89 (modeImmM16 v s) s)

/-! ## Shifts and rotates -/

/-- R185: the operator of ASL. -/
def opAsl (loc : Loc) (s : State) : Except Refusal State :=
  let v := s.locRead loc s.wM
  let r := truncTo s.wM (v <<< 1)
  (s.locWrite loc s.wM r).map fun t => (t.setFlag maskC (msbOf s.wM v)).setNZ s.wM r

/-- ASL in any mode: the read-modify-write cycles and the operator (R191, R364). -/
def aslWith (op : Byte) (f : Formed Loc) (s : State) (P : Parameters := .std) : Counted :=
  completeWrite op f.adj (extraRmw s) (opAsl f.operand (s.advance f.len)) P

/-- 0x06 `ASL d` (R185, R129). -/
def execAslDp (dd : Byte) (s : State) : Outcome := chargeCycles (aslWith 0x06 (modeDp dd s) s)

/-- 0x0A `ASL A` (R185, R125). -/
def execAslAcc (s : State) : Outcome := chargeCycles (aslWith 0x0A (modeAcc s) s)

/-- 0x0E `ASL a` (R185, R137). -/
def execAslAbs (aa : Word) (s : State) : Outcome := chargeCycles (aslWith 0x0E (modeAbs aa s) s)

/-- 0x16 `ASL d,X` (R185, R130). -/
def execAslDpx (dd : Byte) (s : State) : Outcome := chargeCycles (aslWith 0x16 (modeDpx dd s) s)

/-- 0x1E `ASL a,X` (R185, R138). -/
def execAslAbsx (aa : Word) (s : State) : Outcome := chargeCycles (aslWith 0x1E (modeAbsx .asl aa s) s)

/-- R186: the operator of LSR. -/
def opLsr (loc : Loc) (s : State) : Except Refusal State :=
  let v := s.locRead loc s.wM
  let r := v >>> 1
  (s.locWrite loc s.wM r).map fun t => (t.setFlag maskC (v.getLsbD 0)).setNZ s.wM r

/-- LSR in any mode: the read-modify-write cycles and the operator (R191, R364). -/
def lsrWith (op : Byte) (f : Formed Loc) (s : State) (P : Parameters := .std) : Counted :=
  completeWrite op f.adj (extraRmw s) (opLsr f.operand (s.advance f.len)) P

/-- 0x46 `LSR d` (R186, R129). -/
def execLsrDp (dd : Byte) (s : State) : Outcome := chargeCycles (lsrWith 0x46 (modeDp dd s) s)

/-- 0x4A `LSR A` (R186, R125). -/
def execLsrAcc (s : State) : Outcome := chargeCycles (lsrWith 0x4A (modeAcc s) s)

/-- 0x4E `LSR a` (R186, R137). -/
def execLsrAbs (aa : Word) (s : State) : Outcome := chargeCycles (lsrWith 0x4E (modeAbs aa s) s)

/-- 0x56 `LSR d,X` (R186, R130). -/
def execLsrDpx (dd : Byte) (s : State) : Outcome := chargeCycles (lsrWith 0x56 (modeDpx dd s) s)

/-- 0x5E `LSR a,X` (R186, R138). -/
def execLsrAbsx (aa : Word) (s : State) : Outcome := chargeCycles (lsrWith 0x5E (modeAbsx .lsr aa s) s)

/-- R187: the operator of ROL. -/
def opRol (loc : Loc) (s : State) : Except Refusal State :=
  let v := s.locRead loc s.wM
  let r := truncTo s.wM (v <<< 1 ||| BitVec.ofNat 16 s.flagC.toNat)
  (s.locWrite loc s.wM r).map fun t => (t.setFlag maskC (msbOf s.wM v)).setNZ s.wM r

/-- ROL in any mode: the read-modify-write cycles and the operator (R191, R364). -/
def rolWith (op : Byte) (f : Formed Loc) (s : State) (P : Parameters := .std) : Counted :=
  completeWrite op f.adj (extraRmw s) (opRol f.operand (s.advance f.len)) P

/-- 0x26 `ROL d` (R187, R129). -/
def execRolDp (dd : Byte) (s : State) : Outcome := chargeCycles (rolWith 0x26 (modeDp dd s) s)

/-- 0x2A `ROL A` (R187, R125). -/
def execRolAcc (s : State) : Outcome := chargeCycles (rolWith 0x2A (modeAcc s) s)

/-- 0x2E `ROL a` (R187, R137). -/
def execRolAbs (aa : Word) (s : State) : Outcome := chargeCycles (rolWith 0x2E (modeAbs aa s) s)

/-- 0x36 `ROL d,X` (R187, R130). -/
def execRolDpx (dd : Byte) (s : State) : Outcome := chargeCycles (rolWith 0x36 (modeDpx dd s) s)

/-- 0x3E `ROL a,X` (R187, R138). -/
def execRolAbsx (aa : Word) (s : State) : Outcome := chargeCycles (rolWith 0x3E (modeAbsx .rol aa s) s)

/-- R188: the operator of ROR. -/
def opRor (loc : Loc) (s : State) : Except Refusal State :=
  let v := s.locRead loc s.wM
  let r := v >>> 1 ||| BitVec.ofNat 16 s.flagC.toNat <<< (s.wM.bits - 1)
  (s.locWrite loc s.wM r).map fun t => (t.setFlag maskC (v.getLsbD 0)).setNZ s.wM r

/-- ROR in any mode: the read-modify-write cycles and the operator (R191, R364). -/
def rorWith (op : Byte) (f : Formed Loc) (s : State) (P : Parameters := .std) : Counted :=
  completeWrite op f.adj (extraRmw s) (opRor f.operand (s.advance f.len)) P

/-- 0x66 `ROR d` (R188, R129). -/
def execRorDp (dd : Byte) (s : State) : Outcome := chargeCycles (rorWith 0x66 (modeDp dd s) s)

/-- 0x6A `ROR A` (R188, R125). -/
def execRorAcc (s : State) : Outcome := chargeCycles (rorWith 0x6A (modeAcc s) s)

/-- 0x6E `ROR a` (R188, R137). -/
def execRorAbs (aa : Word) (s : State) : Outcome := chargeCycles (rorWith 0x6E (modeAbs aa s) s)

/-- 0x76 `ROR d,X` (R188, R130). -/
def execRorDpx (dd : Byte) (s : State) : Outcome := chargeCycles (rorWith 0x76 (modeDpx dd s) s)

/-- 0x7E `ROR a,X` (R188, R138). -/
def execRorAbsx (aa : Word) (s : State) : Outcome := chargeCycles (rorWith 0x7E (modeAbsx .ror aa s) s)

/-! ## TSB and TRB -/

/-- R189: the operator of TSB; z is from `a & v`, no other flag changes. -/
def opTsb (loc : Loc) (s : State) : Except Refusal State :=
  let v := s.locRead loc s.wM
  let a := s.readA s.wM
  (s.locWrite loc s.wM (v ||| a)).map fun t => t.setFlag maskZ (decide (a &&& v = 0))

/-- TSB in any mode: the read-modify-write cycles and the operator (R191, R364). -/
def tsbWith (op : Byte) (f : Formed Loc) (s : State) (P : Parameters := .std) : Counted :=
  completeWrite op f.adj (extraRmw s) (opTsb f.operand (s.advance f.len)) P

/-- 0x04 `TSB d` (R189, R129). -/
def execTsbDp (dd : Byte) (s : State) : Outcome := chargeCycles (tsbWith 0x04 (modeDp dd s) s)

/-- 0x0C `TSB a` (R189, R137). -/
def execTsbAbs (aa : Word) (s : State) : Outcome := chargeCycles (tsbWith 0x0C (modeAbs aa s) s)

/-- R190: the operator of TRB; z is from `a & v`, no other flag changes. -/
def opTrb (loc : Loc) (s : State) : Except Refusal State :=
  let v := s.locRead loc s.wM
  let a := s.readA s.wM
  (s.locWrite loc s.wM (v &&& complement s.wM a)).map fun t => t.setFlag maskZ (decide (a &&& v = 0))

/-- TRB in any mode: the read-modify-write cycles and the operator (R191, R364). -/
def trbWith (op : Byte) (f : Formed Loc) (s : State) (P : Parameters := .std) : Counted :=
  completeWrite op f.adj (extraRmw s) (opTrb f.operand (s.advance f.len)) P

/-- 0x14 `TRB d` (R190, R129). -/
def execTrbDp (dd : Byte) (s : State) : Outcome := chargeCycles (trbWith 0x14 (modeDp dd s) s)

/-- 0x1C `TRB a` (R190, R137). -/
def execTrbAbs (aa : Word) (s : State) : Outcome := chargeCycles (trbWith 0x1C (modeAbs aa s) s)

end Sys2Proof.Machine
end

