-- ==== Sys2Proof/Machine/Misc.lean ====
section
/-! DEFINITION. The block moves and the remaining instructions (48_block_move_misc.md): MVN, MVP, NOP, WDM, WAI, STP. -/

namespace Sys2Proof.Machine

/-! ## Block move -/

/-- R340: the registers after one byte was moved: X and Y stepped at the index width, `DBR` the destination bank, all 16
bits of `C` counted down, and `PC` back at the opcode unless the count was 0. -/
def afterMove (dir : Word) (dst : Byte) (pc0 : Word) (s : State) : State :=
  let stepped := ((s.setX s.wX (s.x + dir)).setY s.wX (s.y + dir)).setDbr dst
  (stepped.setA .w16 (s.c - 1)).setPc (if s.c = 0 then s.pc else pc0)

/-- R340 `BlockMove(dir)`: one step moves one byte; the instruction repeats by being fetched again. -/
def moveWith (op : Byte) (dir : Word) (dst : Byte) (f : Formed (Loc × Loc)) (s : State)
    (P : Parameters := .std) : Counted :=
  let v := s.locRead f.operand.1 .w8
  completeWrite op f.adj 0 (((s.advance f.len).locWrite f.operand.2 .w8 v).map (afterMove dir dst s.pc)) P

/-- 0x54 `MVN mv` (R341, R149). -/
def execMvn (dst : Byte) (src : Byte) (s : State) : Outcome := chargeCycles (moveWith 0x54 1 dst (modeMove dst src s) s)

/-- 0x44 `MVP mv` (R342, R149). -/
def execMvp (dst : Byte) (src : Byte) (s : State) : Outcome := chargeCycles (moveWith 0x44 (-1) dst (modeMove dst src s) s)

/-! ## No-operations -/

/-- R343: NOP, its opcode byte and the mode given. -/
def nopWith (op : Byte) (f : Formed Unit) (s : State) (P : Parameters := .std) : Counted := implied op f id s P

/-- 0xEA `NOP` (R343, R124). -/
def execNop (s : State) : Outcome := chargeCycles (nopWith 0xEA modeImp s)

/-- R344: WDM changes nothing but `PC` and `CYC`. -/
def wdmWith (op : Byte) (f : Formed Unit) (s : State) (P : Parameters := .std) : Counted :=
  complete op f.adj 0 (s.advance f.len) P

/-- 0x42 `WDM #sig` (R344, R128). -/
def execWdm (sig : Byte) (s : State) : Outcome := chargeCycles (wdmWith 0x42 (modeSig sig) s)

/-! ## Instructions without coded semantics -/

/-- R381: `raise UnimplementedInstruction(op)`; the step changes nothing. -/
def unimplemented (op : Byte) (_s : State) : Counted := .fault (.unimplementedInstruction op)

/-- R345: WAI has no coded semantics: R381's failure with the opcode byte `op` of its entry. At 0xCB, which is in every `UNIMPL`,
the step has already failed so. DESIGN CHOICE (safe, log entry 13): the same at any other byte that an `OPTABLE` binds to
WAI, since the spec gives no operator there. -/
def waiWith (op : Byte) (s : State) : Counted := unimplemented op s

/-- R346: STP, as WAI, at 0xDB. DESIGN CHOICE (safe, log entry 13): the same failure, with the byte fetched, at any other byte
that an `OPTABLE` binds to STP. -/
def stpWith (op : Byte) (s : State) : Counted := unimplemented op s

/-- 0xCB `WAI` (R345, R381): the step fails, nothing is changed. -/
def execWai (s : State) : Outcome := chargeCycles (waiWith 0xCB s)

/-- 0xDB `STP` (R346, R381): the step fails, nothing is changed. -/
def execStp (s : State) : Outcome := chargeCycles (stpWith 0xDB s)

end Sys2Proof.Machine
end

