-- ==== Sys2Proof/Machine/ModeSwitch.lean ====
section
/-! DEFINITION. The mode-switch and flag operators (47_mode_switch.md): REP, SEP, XCE, CLC, SEC, CLD, SED, CLI, SEI, CLV. -/

namespace Sys2Proof.Machine

/-! ## REP, SEP, XCE -/

/-- REP and SEP: a status byte computed from the mask and written through `SetP` (R320, R321, R33). -/
def statusWith (op : Byte) (f : Formed Byte) (combine : Byte → Byte → Byte) (s : State)
    (P : Parameters := .std) : Counted :=
  complete op f.adj 0 ((s.advance f.len).setP (combine s.p f.operand)) P

/-- R320: REP clears the bits of the mask. -/
def repWith (op : Byte) (f : Formed Byte) (s : State) (P : Parameters := .std) : Counted :=
  statusWith op f (fun p mask => p &&& (mask ^^^ 0xFF)) s P

/-- R321: SEP sets the bits of the mask. -/
def sepWith (op : Byte) (f : Formed Byte) (s : State) (P : Parameters := .std) : Counted :=
  statusWith op f (fun p mask => p ||| mask) s P

/-- 0xC2 `REP #8` (R320, R128). -/
def execRep (k : Byte) (s : State) : Outcome := chargeCycles (repWith 0xC2 (modeImm8 k) s)

/-- 0xE2 `SEP #8` (R321, R128). -/
def execSep (k : Byte) (s : State) : Outcome := chargeCycles (sepWith 0xE2 (modeImm8 k) s)

/-- R322: the operator of XCE: `c` and `E` exchanged, the invariants restored. -/
def opXce (s : State) : State := (s.setFlag maskC s.e).setE s.flagC

/-- R322: XCE, its opcode byte and the mode given. -/
def xceWith (op : Byte) (f : Formed Unit) (s : State) (P : Parameters := .std) : Counted := implied op f opXce s P

/-- 0xFB `XCE` (R322, R124). -/
def execXce (s : State) : Outcome := chargeCycles (xceWith 0xFB modeImp s)

/-! ## Single-flag instructions -/

/-- R323: CLC, its opcode byte and the mode given. -/
def clcWith (op : Byte) (f : Formed Unit) (s : State) (P : Parameters := .std) : Counted :=
  implied op f (fun t => t.setFlag maskC false) s P

/-- 0x18 `CLC` (R323, R124). -/
def execClc (s : State) : Outcome := chargeCycles (clcWith 0x18 modeImp s)

/-- R324: SEC, its opcode byte and the mode given. -/
def secWith (op : Byte) (f : Formed Unit) (s : State) (P : Parameters := .std) : Counted :=
  implied op f (fun t => t.setFlag maskC true) s P

/-- 0x38 `SEC` (R324, R124). -/
def execSec (s : State) : Outcome := chargeCycles (secWith 0x38 modeImp s)

/-- R325: CLD, its opcode byte and the mode given. -/
def cldWith (op : Byte) (f : Formed Unit) (s : State) (P : Parameters := .std) : Counted :=
  implied op f (fun t => t.setFlag maskD false) s P

/-- 0xD8 `CLD` (R325, R124). -/
def execCld (s : State) : Outcome := chargeCycles (cldWith 0xD8 modeImp s)

/-- R326: SED, its opcode byte and the mode given. -/
def sedWith (op : Byte) (f : Formed Unit) (s : State) (P : Parameters := .std) : Counted :=
  implied op f (fun t => t.setFlag maskD true) s P

/-- 0xF8 `SED` (R326, R124). -/
def execSed (s : State) : Outcome := chargeCycles (sedWith 0xF8 modeImp s)

/-- R327: CLI, its opcode byte and the mode given. -/
def cliWith (op : Byte) (f : Formed Unit) (s : State) (P : Parameters := .std) : Counted :=
  implied op f (fun t => t.setFlag maskI false) s P

/-- 0x58 `CLI` (R327, R124). -/
def execCli (s : State) : Outcome := chargeCycles (cliWith 0x58 modeImp s)

/-- R328: SEI, its opcode byte and the mode given. -/
def seiWith (op : Byte) (f : Formed Unit) (s : State) (P : Parameters := .std) : Counted :=
  implied op f (fun t => t.setFlag maskI true) s P

/-- 0x78 `SEI` (R328, R124). -/
def execSei (s : State) : Outcome := chargeCycles (seiWith 0x78 modeImp s)

/-- R329: CLV, its opcode byte and the mode given. -/
def clvWith (op : Byte) (f : Formed Unit) (s : State) (P : Parameters := .std) : Counted :=
  implied op f (fun t => t.setFlag maskV false) s P

/-- 0xB8 `CLV` (R329, R124). -/
def execClv (s : State) : Outcome := chargeCycles (clvWith 0xB8 modeImp s)

end Sys2Proof.Machine
end

