-- ==== Sys2Proof/Machine/Stack.lean ====
section
/-! DEFINITION. The stack operators (46_stack.md): the pushes, the pulls, PEA, PEI, PER. -/

namespace Sys2Proof.Machine

/-! ## Pushes -/

/-- R291: PHA, its opcode byte and the mode given. -/
def phaWith (op : Byte) (f : Formed Unit) (s : State) (P : Parameters := .std) : Counted :=
  stacked op f (widthPen s.flagM) (fun t => t.pushW t.wM t.c) s P

/-- 0x48 `PHA` (R291, R124). -/
def execPha (s : State) : Outcome := chargeCycles (phaWith 0x48 modeImp s)

/-- R292: PHX, its opcode byte and the mode given. -/
def phxWith (op : Byte) (f : Formed Unit) (s : State) (P : Parameters := .std) : Counted :=
  stacked op f (widthPen s.flagX) (fun t => t.pushW t.wX t.x) s P

/-- 0xDA `PHX` (R292, R124). -/
def execPhx (s : State) : Outcome := chargeCycles (phxWith 0xDA modeImp s)

/-- R293: PHY, its opcode byte and the mode given. -/
def phyWith (op : Byte) (f : Formed Unit) (s : State) (P : Parameters := .std) : Counted :=
  stacked op f (widthPen s.flagX) (fun t => t.pushW t.wX t.y) s P

/-- 0x5A `PHY` (R293, R124). -/
def execPhy (s : State) : Outcome := chargeCycles (phyWith 0x5A modeImp s)

/-- R294: PHP, its opcode byte and the mode given. -/
def phpWith (op : Byte) (f : Formed Unit) (s : State) (P : Parameters := .std) : Counted :=
  stacked op f 0 (fun t => t.push8 t.p) s P

/-- 0x08 `PHP` (R294, R124). -/
def execPhp (s : State) : Outcome := chargeCycles (phpWith 0x08 modeImp s)

/-- R295: PHB, its opcode byte and the mode given. -/
def phbWith (op : Byte) (f : Formed Unit) (s : State) (P : Parameters := .std) : Counted :=
  stacked op f 0 (fun t => t.push8 t.dbr) s P

/-- 0x8B `PHB` (R295, R124). -/
def execPhb (s : State) : Outcome := chargeCycles (phbWith 0x8B modeImp s)

/-- R296: PHD, its opcode byte and the mode given. -/
def phdWith (op : Byte) (f : Formed Unit) (s : State) (P : Parameters := .std) : Counted :=
  stacked op f 0 (fun t => t.push16 t.d) s P

/-- 0x0B `PHD` (R296, R124). -/
def execPhd (s : State) : Outcome := chargeCycles (phdWith 0x0B modeImp s)

/-- R297: PHK, its opcode byte and the mode given. -/
def phkWith (op : Byte) (f : Formed Unit) (s : State) (P : Parameters := .std) : Counted :=
  stacked op f 0 (fun t => t.push8 t.pbr) s P

/-- 0x4B `PHK` (R297, R124). -/
def execPhk (s : State) : Outcome := chargeCycles (phkWith 0x4B modeImp s)

/-! ## Pulls -/

/-- R298: the operator of PLA. -/
def opPla (s : State) : State :=
  let v := s.pullW s.wM
  (v.2.setA s.wM v.1).setNZ s.wM v.1

/-- R299: the operator of PLX. -/
def opPlx (s : State) : State :=
  let v := s.pullW s.wX
  (v.2.setX s.wX v.1).setNZ s.wX v.1

/-- R300: the operator of PLY. -/
def opPly (s : State) : State :=
  let v := s.pullW s.wX
  (v.2.setY s.wX v.1).setNZ s.wX v.1

/-- R301: the operator of PLP. -/
def opPlp (s : State) : State := s.pull8.2.setP s.pull8.1

/-- R302: the operator of PLB. -/
def opPlb (s : State) : State := (s.pull8.2.setDbr s.pull8.1).setNZ .w8 (word s.pull8.1 0x00)

/-- R303: the operator of PLD. -/
def opPld (s : State) : State := (s.pull16.2.setD s.pull16.1).setNZ .w16 s.pull16.1

/-- R298: PLA, its opcode byte and the mode given. -/
def plaWith (op : Byte) (f : Formed Unit) (s : State) (P : Parameters := .std) : Counted :=
  stacked op f (widthPen s.flagM) opPla s P

/-- 0x68 `PLA` (R298, R124). -/
def execPla (s : State) : Outcome := chargeCycles (plaWith 0x68 modeImp s)

/-- R299: PLX, its opcode byte and the mode given. -/
def plxWith (op : Byte) (f : Formed Unit) (s : State) (P : Parameters := .std) : Counted :=
  stacked op f (widthPen s.flagX) opPlx s P

/-- 0xFA `PLX` (R299, R124). -/
def execPlx (s : State) : Outcome := chargeCycles (plxWith 0xFA modeImp s)

/-- R300: PLY, its opcode byte and the mode given. -/
def plyWith (op : Byte) (f : Formed Unit) (s : State) (P : Parameters := .std) : Counted :=
  stacked op f (widthPen s.flagX) opPly s P

/-- 0x7A `PLY` (R300, R124). -/
def execPly (s : State) : Outcome := chargeCycles (plyWith 0x7A modeImp s)

/-- R301: PLP, its opcode byte and the mode given. -/
def plpWith (op : Byte) (f : Formed Unit) (s : State) (P : Parameters := .std) : Counted := stacked op f 0 opPlp s P

/-- 0x28 `PLP` (R301, R124). -/
def execPlp (s : State) : Outcome := chargeCycles (plpWith 0x28 modeImp s)

/-- R302: PLB, its opcode byte and the mode given. -/
def plbWith (op : Byte) (f : Formed Unit) (s : State) (P : Parameters := .std) : Counted := stacked op f 0 opPlb s P

/-- 0xAB `PLB` (R302, R124). -/
def execPlb (s : State) : Outcome := chargeCycles (plbWith 0xAB modeImp s)

/-- R303: PLD, its opcode byte and the mode given. -/
def pldWith (op : Byte) (f : Formed Unit) (s : State) (P : Parameters := .std) : Counted := stacked op f 0 opPld s P

/-- 0x2B `PLD` (R303, R124). -/
def execPld (s : State) : Outcome := chargeCycles (pldWith 0x2B modeImp s)

/-! ## Push effective address -/

/-- R304 to R306: a 16-bit value that the mode formed is pushed. -/
def pushEffective (op : Byte) (f : Formed Word) (s : State) (P : Parameters := .std) : Counted :=
  complete op f.adj 0 ((s.advance f.len).push16 f.operand) P

/-- 0xF4 `PEA #16` (R304, R128). -/
def execPea (v : Word) (s : State) : Outcome := chargeCycles (pushEffective 0xF4 (modeImm16 v) s)

/-- 0xD4 `PEI (d)` (R305, R132). -/
def execPei (dd : Byte) (s : State) : Outcome := chargeCycles (pushEffective 0xD4 (modeIdpPointer dd s) s)

/-- 0x62 `PER r16` (R306, R145). -/
def execPer (disp : Word) (s : State) : Outcome := chargeCycles (pushEffective 0x62 (modeRel16 disp s) s)

end Sys2Proof.Machine
end

