-- ==== Sys2Proof/Machine/Transfer.lean ====
section
/-! DEFINITION. The transfers between registers (44_load_store_transfer.md, R218 to R230): the destination gives the width (R210). -/

namespace Sys2Proof.Machine

/-- R210: a value moved to `X` at the index width, with n and z. -/
def moveToX (v : Word) (s : State) : State :=
  (s.setX s.wX (truncTo s.wX v)).setNZ s.wX (truncTo s.wX v)

/-- R210: a value moved to `Y` at the index width, with n and z. -/
def moveToY (v : Word) (s : State) : State :=
  (s.setY s.wX (truncTo s.wX v)).setNZ s.wX (truncTo s.wX v)

/-- R210: a value moved to the accumulator at the accumulator width, with n and z. -/
def moveToA (v : Word) (s : State) : State :=
  (s.setA s.wM (truncTo s.wM v)).setNZ s.wM (truncTo s.wM v)

/-- R218: TAX, its opcode byte and the mode given. -/
def taxWith (op : Byte) (f : Formed Unit) (s : State) (P : Parameters := .std) : Counted :=
  implied op f (fun t => moveToX t.c t) s P

/-- 0xAA `TAX` (R218, R124). -/
def execTax (s : State) : Outcome := chargeCycles (taxWith 0xAA modeImp s)

/-- R219: TAY, its opcode byte and the mode given. -/
def tayWith (op : Byte) (f : Formed Unit) (s : State) (P : Parameters := .std) : Counted :=
  implied op f (fun t => moveToY t.c t) s P

/-- 0xA8 `TAY` (R219, R124). -/
def execTay (s : State) : Outcome := chargeCycles (tayWith 0xA8 modeImp s)

/-- R220: TXA, its opcode byte and the mode given. -/
def txaWith (op : Byte) (f : Formed Unit) (s : State) (P : Parameters := .std) : Counted :=
  implied op f (fun t => moveToA t.x t) s P

/-- 0x8A `TXA` (R220, R124). -/
def execTxa (s : State) : Outcome := chargeCycles (txaWith 0x8A modeImp s)

/-- R221: TYA, its opcode byte and the mode given. -/
def tyaWith (op : Byte) (f : Formed Unit) (s : State) (P : Parameters := .std) : Counted :=
  implied op f (fun t => moveToA t.y t) s P

/-- 0x98 `TYA` (R221, R124). -/
def execTya (s : State) : Outcome := chargeCycles (tyaWith 0x98 modeImp s)

/-- R222: TXY, its opcode byte and the mode given. -/
def txyWith (op : Byte) (f : Formed Unit) (s : State) (P : Parameters := .std) : Counted :=
  implied op f (fun t => moveToY t.x t) s P

/-- 0x9B `TXY` (R222, R124). -/
def execTxy (s : State) : Outcome := chargeCycles (txyWith 0x9B modeImp s)

/-- R223: TYX, its opcode byte and the mode given. -/
def tyxWith (op : Byte) (f : Formed Unit) (s : State) (P : Parameters := .std) : Counted :=
  implied op f (fun t => moveToX t.y t) s P

/-- 0xBB `TYX` (R223, R124). -/
def execTyx (s : State) : Outcome := chargeCycles (tyxWith 0xBB modeImp s)

/-- R224: TSX, its opcode byte and the mode given. -/
def tsxWith (op : Byte) (f : Formed Unit) (s : State) (P : Parameters := .std) : Counted :=
  implied op f (fun t => moveToX t.sp t) s P

/-- 0xBA `TSX` (R224, R124). -/
def execTsx (s : State) : Outcome := chargeCycles (tsxWith 0xBA modeImp s)

/-- R225: TXS, its opcode byte and the mode given. -/
def txsWith (op : Byte) (f : Formed Unit) (s : State) (P : Parameters := .std) : Counted :=
  implied op f (fun t => t.setS t.x) s P

/-- 0x9A `TXS` (R225, R124). -/
def execTxs (s : State) : Outcome := chargeCycles (txsWith 0x9A modeImp s)

/-- R226: TCD, its opcode byte and the mode given. -/
def tcdWith (op : Byte) (f : Formed Unit) (s : State) (P : Parameters := .std) : Counted :=
  implied op f (fun t => (t.setD t.c).setNZ .w16 t.c) s P

/-- 0x5B `TCD` (R226, R124). -/
def execTcd (s : State) : Outcome := chargeCycles (tcdWith 0x5B modeImp s)

/-- R227: TDC, its opcode byte and the mode given. -/
def tdcWith (op : Byte) (f : Formed Unit) (s : State) (P : Parameters := .std) : Counted :=
  implied op f (fun t => (t.setA .w16 t.d).setNZ .w16 t.d) s P

/-- 0x7B `TDC` (R227, R124). -/
def execTdc (s : State) : Outcome := chargeCycles (tdcWith 0x7B modeImp s)

/-- R228: TCS, its opcode byte and the mode given. -/
def tcsWith (op : Byte) (f : Formed Unit) (s : State) (P : Parameters := .std) : Counted :=
  implied op f (fun t => t.setS t.c) s P

/-- 0x1B `TCS` (R228, R124). -/
def execTcs (s : State) : Outcome := chargeCycles (tcsWith 0x1B modeImp s)

/-- R229: TSC, its opcode byte and the mode given. -/
def tscWith (op : Byte) (f : Formed Unit) (s : State) (P : Parameters := .std) : Counted :=
  implied op f (fun t => (t.setA .w16 t.sp).setNZ .w16 t.sp) s P

/-- 0x3B `TSC` (R229, R124). -/
def execTsc (s : State) : Outcome := chargeCycles (tscWith 0x3B modeImp s)

/-- R230: the accumulator halves exchanged; flags from the new `A`. -/
def opXba (s : State) : State :=
  let swapped := word (hi s.c) (lo s.c)
  (s.setA .w16 swapped).setNZ .w8 swapped

/-- R230: XBA, its opcode byte and the mode given. -/
def xbaWith (op : Byte) (f : Formed Unit) (s : State) (P : Parameters := .std) : Counted := implied op f opXba s P

/-- 0xEB `XBA` (R230, R124). -/
def execXba (s : State) : Outcome := chargeCycles (xbaWith 0xEB modeImp s)

end Sys2Proof.Machine
end

