-- ==== Sys2Proof/Machine/Dispatch.lean ====
section
/-! DEFINITION. The meaning of every instruction, one arm per row of spec/opcode_table.json, in the order of the
constructors of `Instr`. -/

namespace Sys2Proof.Machine

def exec (i : Instr) (s : State) : Host.Outcome State Fault Refusal :=
  match i with
  | .brk sig => Sys2Proof.Machine.execBrk sig s
  | .oraIdpx dd => Sys2Proof.Machine.execOraIdpx dd s
  | .cop sig => Sys2Proof.Machine.execCop sig s
  | .oraSr sr => Sys2Proof.Machine.execOraSr sr s
  | .tsbDp dd => Sys2Proof.Machine.execTsbDp dd s
  | .oraDp dd => Sys2Proof.Machine.execOraDp dd s
  | .aslDp dd => Sys2Proof.Machine.execAslDp dd s
  | .oraIldp dd => Sys2Proof.Machine.execOraIldp dd s
  | .oraImmM8 v => Sys2Proof.Machine.execOraImmM8 v s
  | .oraImmM16 v => Sys2Proof.Machine.execOraImmM16 v s
  | .tsbAbs aa => Sys2Proof.Machine.execTsbAbs aa s
  | .oraAbs aa => Sys2Proof.Machine.execOraAbs aa s
  | .aslAbs aa => Sys2Proof.Machine.execAslAbs aa s
  | .oraLong al => Sys2Proof.Machine.execOraLong al s
  | .bpl disp => Sys2Proof.Machine.execBpl disp s
  | .oraIdpy dd => Sys2Proof.Machine.execOraIdpy dd s
  | .oraIdp dd => Sys2Proof.Machine.execOraIdp dd s
  | .oraIsry sr => Sys2Proof.Machine.execOraIsry sr s
  | .trbDp dd => Sys2Proof.Machine.execTrbDp dd s
  | .oraDpx dd => Sys2Proof.Machine.execOraDpx dd s
  | .aslDpx dd => Sys2Proof.Machine.execAslDpx dd s
  | .oraIldpy dd => Sys2Proof.Machine.execOraIldpy dd s
  | .oraAbsy aa => Sys2Proof.Machine.execOraAbsy aa s
  | .trbAbs aa => Sys2Proof.Machine.execTrbAbs aa s
  | .oraAbsx aa => Sys2Proof.Machine.execOraAbsx aa s
  | .aslAbsx aa => Sys2Proof.Machine.execAslAbsx aa s
  | .oraLongx al => Sys2Proof.Machine.execOraLongx al s
  | .jsrPabs aa => Sys2Proof.Machine.execJsrPabs aa s
  | .andIdpx dd => Sys2Proof.Machine.execAndIdpx dd s
  | .jsl al => Sys2Proof.Machine.execJsl al s
  | .andSr sr => Sys2Proof.Machine.execAndSr sr s
  | .bitDp dd => Sys2Proof.Machine.execBitDp dd s
  | .andDp dd => Sys2Proof.Machine.execAndDp dd s
  | .rolDp dd => Sys2Proof.Machine.execRolDp dd s
  | .andIldp dd => Sys2Proof.Machine.execAndIldp dd s
  | .andImmM8 v => Sys2Proof.Machine.execAndImmM8 v s
  | .andImmM16 v => Sys2Proof.Machine.execAndImmM16 v s
  | .bitAbs aa => Sys2Proof.Machine.execBitAbs aa s
  | .andAbs aa => Sys2Proof.Machine.execAndAbs aa s
  | .rolAbs aa => Sys2Proof.Machine.execRolAbs aa s
  | .andLong al => Sys2Proof.Machine.execAndLong al s
  | .bmi disp => Sys2Proof.Machine.execBmi disp s
  | .andIdpy dd => Sys2Proof.Machine.execAndIdpy dd s
  | .andIdp dd => Sys2Proof.Machine.execAndIdp dd s
  | .andIsry sr => Sys2Proof.Machine.execAndIsry sr s
  | .bitDpx dd => Sys2Proof.Machine.execBitDpx dd s
  | .andDpx dd => Sys2Proof.Machine.execAndDpx dd s
  | .rolDpx dd => Sys2Proof.Machine.execRolDpx dd s
  | .andIldpy dd => Sys2Proof.Machine.execAndIldpy dd s
  | .andAbsy aa => Sys2Proof.Machine.execAndAbsy aa s
  | .bitAbsx aa => Sys2Proof.Machine.execBitAbsx aa s
  | .andAbsx aa => Sys2Proof.Machine.execAndAbsx aa s
  | .rolAbsx aa => Sys2Proof.Machine.execRolAbsx aa s
  | .andLongx al => Sys2Proof.Machine.execAndLongx al s
  | .eorIdpx dd => Sys2Proof.Machine.execEorIdpx dd s
  | .wdm sig => Sys2Proof.Machine.execWdm sig s
  | .eorSr sr => Sys2Proof.Machine.execEorSr sr s
  | .mvp dst src => Sys2Proof.Machine.execMvp dst src s
  | .eorDp dd => Sys2Proof.Machine.execEorDp dd s
  | .lsrDp dd => Sys2Proof.Machine.execLsrDp dd s
  | .eorIldp dd => Sys2Proof.Machine.execEorIldp dd s
  | .eorImmM8 v => Sys2Proof.Machine.execEorImmM8 v s
  | .eorImmM16 v => Sys2Proof.Machine.execEorImmM16 v s
  | .jmpPabs aa => Sys2Proof.Machine.execJmpPabs aa s
  | .eorAbs aa => Sys2Proof.Machine.execEorAbs aa s
  | .lsrAbs aa => Sys2Proof.Machine.execLsrAbs aa s
  | .eorLong al => Sys2Proof.Machine.execEorLong al s
  | .bvc disp => Sys2Proof.Machine.execBvc disp s
  | .eorIdpy dd => Sys2Proof.Machine.execEorIdpy dd s
  | .eorIdp dd => Sys2Proof.Machine.execEorIdp dd s
  | .eorIsry sr => Sys2Proof.Machine.execEorIsry sr s
  | .mvn dst src => Sys2Proof.Machine.execMvn dst src s
  | .eorDpx dd => Sys2Proof.Machine.execEorDpx dd s
  | .lsrDpx dd => Sys2Proof.Machine.execLsrDpx dd s
  | .eorIldpy dd => Sys2Proof.Machine.execEorIldpy dd s
  | .eorAbsy aa => Sys2Proof.Machine.execEorAbsy aa s
  | .jmlPlong al => Sys2Proof.Machine.execJmlPlong al s
  | .eorAbsx aa => Sys2Proof.Machine.execEorAbsx aa s
  | .lsrAbsx aa => Sys2Proof.Machine.execLsrAbsx aa s
  | .eorLongx al => Sys2Proof.Machine.execEorLongx al s
  | .adcIdpx dd => Sys2Proof.Machine.execAdcIdpx dd s
  | .per disp => Sys2Proof.Machine.execPer disp s
  | .adcSr sr => Sys2Proof.Machine.execAdcSr sr s
  | .stzDp dd => Sys2Proof.Machine.execStzDp dd s
  | .adcDp dd => Sys2Proof.Machine.execAdcDp dd s
  | .rorDp dd => Sys2Proof.Machine.execRorDp dd s
  | .adcIldp dd => Sys2Proof.Machine.execAdcIldp dd s
  | .adcImmM8 v => Sys2Proof.Machine.execAdcImmM8 v s
  | .adcImmM16 v => Sys2Proof.Machine.execAdcImmM16 v s
  | .jmpIabs aa => Sys2Proof.Machine.execJmpIabs aa s
  | .adcAbs aa => Sys2Proof.Machine.execAdcAbs aa s
  | .rorAbs aa => Sys2Proof.Machine.execRorAbs aa s
  | .adcLong al => Sys2Proof.Machine.execAdcLong al s
  | .bvs disp => Sys2Proof.Machine.execBvs disp s
  | .adcIdpy dd => Sys2Proof.Machine.execAdcIdpy dd s
  | .adcIdp dd => Sys2Proof.Machine.execAdcIdp dd s
  | .adcIsry sr => Sys2Proof.Machine.execAdcIsry sr s
  | .stzDpx dd => Sys2Proof.Machine.execStzDpx dd s
  | .adcDpx dd => Sys2Proof.Machine.execAdcDpx dd s
  | .rorDpx dd => Sys2Proof.Machine.execRorDpx dd s
  | .adcIldpy dd => Sys2Proof.Machine.execAdcIldpy dd s
  | .adcAbsy aa => Sys2Proof.Machine.execAdcAbsy aa s
  | .jmpIabsx aa => Sys2Proof.Machine.execJmpIabsx aa s
  | .adcAbsx aa => Sys2Proof.Machine.execAdcAbsx aa s
  | .rorAbsx aa => Sys2Proof.Machine.execRorAbsx aa s
  | .adcLongx al => Sys2Proof.Machine.execAdcLongx al s
  | .bra disp => Sys2Proof.Machine.execBra disp s
  | .staIdpx dd => Sys2Proof.Machine.execStaIdpx dd s
  | .brl disp => Sys2Proof.Machine.execBrl disp s
  | .staSr sr => Sys2Proof.Machine.execStaSr sr s
  | .styDp dd => Sys2Proof.Machine.execStyDp dd s
  | .staDp dd => Sys2Proof.Machine.execStaDp dd s
  | .stxDp dd => Sys2Proof.Machine.execStxDp dd s
  | .staIldp dd => Sys2Proof.Machine.execStaIldp dd s
  | .bitImmM8 v => Sys2Proof.Machine.execBitImmM8 v s
  | .bitImmM16 v => Sys2Proof.Machine.execBitImmM16 v s
  | .styAbs aa => Sys2Proof.Machine.execStyAbs aa s
  | .staAbs aa => Sys2Proof.Machine.execStaAbs aa s
  | .stxAbs aa => Sys2Proof.Machine.execStxAbs aa s
  | .staLong al => Sys2Proof.Machine.execStaLong al s
  | .bcc disp => Sys2Proof.Machine.execBcc disp s
  | .staIdpy dd => Sys2Proof.Machine.execStaIdpy dd s
  | .staIdp dd => Sys2Proof.Machine.execStaIdp dd s
  | .staIsry sr => Sys2Proof.Machine.execStaIsry sr s
  | .styDpx dd => Sys2Proof.Machine.execStyDpx dd s
  | .staDpx dd => Sys2Proof.Machine.execStaDpx dd s
  | .stxDpy dd => Sys2Proof.Machine.execStxDpy dd s
  | .staIldpy dd => Sys2Proof.Machine.execStaIldpy dd s
  | .staAbsy aa => Sys2Proof.Machine.execStaAbsy aa s
  | .stzAbs aa => Sys2Proof.Machine.execStzAbs aa s
  | .staAbsx aa => Sys2Proof.Machine.execStaAbsx aa s
  | .stzAbsx aa => Sys2Proof.Machine.execStzAbsx aa s
  | .staLongx al => Sys2Proof.Machine.execStaLongx al s
  | .ldyImmX8 v => Sys2Proof.Machine.execLdyImmX8 v s
  | .ldyImmX16 v => Sys2Proof.Machine.execLdyImmX16 v s
  | .ldaIdpx dd => Sys2Proof.Machine.execLdaIdpx dd s
  | .ldxImmX8 v => Sys2Proof.Machine.execLdxImmX8 v s
  | .ldxImmX16 v => Sys2Proof.Machine.execLdxImmX16 v s
  | .ldaSr sr => Sys2Proof.Machine.execLdaSr sr s
  | .ldyDp dd => Sys2Proof.Machine.execLdyDp dd s
  | .ldaDp dd => Sys2Proof.Machine.execLdaDp dd s
  | .ldxDp dd => Sys2Proof.Machine.execLdxDp dd s
  | .ldaIldp dd => Sys2Proof.Machine.execLdaIldp dd s
  | .ldaImmM8 v => Sys2Proof.Machine.execLdaImmM8 v s
  | .ldaImmM16 v => Sys2Proof.Machine.execLdaImmM16 v s
  | .ldyAbs aa => Sys2Proof.Machine.execLdyAbs aa s
  | .ldaAbs aa => Sys2Proof.Machine.execLdaAbs aa s
  | .ldxAbs aa => Sys2Proof.Machine.execLdxAbs aa s
  | .ldaLong al => Sys2Proof.Machine.execLdaLong al s
  | .bcs disp => Sys2Proof.Machine.execBcs disp s
  | .ldaIdpy dd => Sys2Proof.Machine.execLdaIdpy dd s
  | .ldaIdp dd => Sys2Proof.Machine.execLdaIdp dd s
  | .ldaIsry sr => Sys2Proof.Machine.execLdaIsry sr s
  | .ldyDpx dd => Sys2Proof.Machine.execLdyDpx dd s
  | .ldaDpx dd => Sys2Proof.Machine.execLdaDpx dd s
  | .ldxDpy dd => Sys2Proof.Machine.execLdxDpy dd s
  | .ldaIldpy dd => Sys2Proof.Machine.execLdaIldpy dd s
  | .ldaAbsy aa => Sys2Proof.Machine.execLdaAbsy aa s
  | .ldyAbsx aa => Sys2Proof.Machine.execLdyAbsx aa s
  | .ldaAbsx aa => Sys2Proof.Machine.execLdaAbsx aa s
  | .ldxAbsy aa => Sys2Proof.Machine.execLdxAbsy aa s
  | .ldaLongx al => Sys2Proof.Machine.execLdaLongx al s
  | .cpyImmX8 v => Sys2Proof.Machine.execCpyImmX8 v s
  | .cpyImmX16 v => Sys2Proof.Machine.execCpyImmX16 v s
  | .cmpIdpx dd => Sys2Proof.Machine.execCmpIdpx dd s
  | .rep k => Sys2Proof.Machine.execRep k s
  | .cmpSr sr => Sys2Proof.Machine.execCmpSr sr s
  | .cpyDp dd => Sys2Proof.Machine.execCpyDp dd s
  | .cmpDp dd => Sys2Proof.Machine.execCmpDp dd s
  | .decDp dd => Sys2Proof.Machine.execDecDp dd s
  | .cmpIldp dd => Sys2Proof.Machine.execCmpIldp dd s
  | .cmpImmM8 v => Sys2Proof.Machine.execCmpImmM8 v s
  | .cmpImmM16 v => Sys2Proof.Machine.execCmpImmM16 v s
  | .cpyAbs aa => Sys2Proof.Machine.execCpyAbs aa s
  | .cmpAbs aa => Sys2Proof.Machine.execCmpAbs aa s
  | .decAbs aa => Sys2Proof.Machine.execDecAbs aa s
  | .cmpLong al => Sys2Proof.Machine.execCmpLong al s
  | .bne disp => Sys2Proof.Machine.execBne disp s
  | .cmpIdpy dd => Sys2Proof.Machine.execCmpIdpy dd s
  | .cmpIdp dd => Sys2Proof.Machine.execCmpIdp dd s
  | .cmpIsry sr => Sys2Proof.Machine.execCmpIsry sr s
  | .pei dd => Sys2Proof.Machine.execPei dd s
  | .cmpDpx dd => Sys2Proof.Machine.execCmpDpx dd s
  | .decDpx dd => Sys2Proof.Machine.execDecDpx dd s
  | .cmpIldpy dd => Sys2Proof.Machine.execCmpIldpy dd s
  | .cmpAbsy aa => Sys2Proof.Machine.execCmpAbsy aa s
  | .jmlIlabs aa => Sys2Proof.Machine.execJmlIlabs aa s
  | .cmpAbsx aa => Sys2Proof.Machine.execCmpAbsx aa s
  | .decAbsx aa => Sys2Proof.Machine.execDecAbsx aa s
  | .cmpLongx al => Sys2Proof.Machine.execCmpLongx al s
  | .cpxImmX8 v => Sys2Proof.Machine.execCpxImmX8 v s
  | .cpxImmX16 v => Sys2Proof.Machine.execCpxImmX16 v s
  | .sbcIdpx dd => Sys2Proof.Machine.execSbcIdpx dd s
  | .sep k => Sys2Proof.Machine.execSep k s
  | .sbcSr sr => Sys2Proof.Machine.execSbcSr sr s
  | .cpxDp dd => Sys2Proof.Machine.execCpxDp dd s
  | .sbcDp dd => Sys2Proof.Machine.execSbcDp dd s
  | .incDp dd => Sys2Proof.Machine.execIncDp dd s
  | .sbcIldp dd => Sys2Proof.Machine.execSbcIldp dd s
  | .sbcImmM8 v => Sys2Proof.Machine.execSbcImmM8 v s
  | .sbcImmM16 v => Sys2Proof.Machine.execSbcImmM16 v s
  | .cpxAbs aa => Sys2Proof.Machine.execCpxAbs aa s
  | .sbcAbs aa => Sys2Proof.Machine.execSbcAbs aa s
  | .incAbs aa => Sys2Proof.Machine.execIncAbs aa s
  | .sbcLong al => Sys2Proof.Machine.execSbcLong al s
  | .beq disp => Sys2Proof.Machine.execBeq disp s
  | .sbcIdpy dd => Sys2Proof.Machine.execSbcIdpy dd s
  | .sbcIdp dd => Sys2Proof.Machine.execSbcIdp dd s
  | .sbcIsry sr => Sys2Proof.Machine.execSbcIsry sr s
  | .pea v => Sys2Proof.Machine.execPea v s
  | .sbcDpx dd => Sys2Proof.Machine.execSbcDpx dd s
  | .incDpx dd => Sys2Proof.Machine.execIncDpx dd s
  | .sbcIldpy dd => Sys2Proof.Machine.execSbcIldpy dd s
  | .sbcAbsy aa => Sys2Proof.Machine.execSbcAbsy aa s
  | .jsrIabsx aa => Sys2Proof.Machine.execJsrIabsx aa s
  | .sbcAbsx aa => Sys2Proof.Machine.execSbcAbsx aa s
  | .incAbsx aa => Sys2Proof.Machine.execIncAbsx aa s
  | .sbcLongx al => Sys2Proof.Machine.execSbcLongx al s
  | .php => Sys2Proof.Machine.execPhp s
  | .aslAcc => Sys2Proof.Machine.execAslAcc s
  | .phd => Sys2Proof.Machine.execPhd s
  | .clc => Sys2Proof.Machine.execClc s
  | .incAcc => Sys2Proof.Machine.execIncAcc s
  | .tcs => Sys2Proof.Machine.execTcs s
  | .plp => Sys2Proof.Machine.execPlp s
  | .rolAcc => Sys2Proof.Machine.execRolAcc s
  | .pld => Sys2Proof.Machine.execPld s
  | .sec => Sys2Proof.Machine.execSec s
  | .decAcc => Sys2Proof.Machine.execDecAcc s
  | .tsc => Sys2Proof.Machine.execTsc s
  | .rti => Sys2Proof.Machine.execRti s
  | .pha => Sys2Proof.Machine.execPha s
  | .lsrAcc => Sys2Proof.Machine.execLsrAcc s
  | .phk => Sys2Proof.Machine.execPhk s
  | .cli => Sys2Proof.Machine.execCli s
  | .phy => Sys2Proof.Machine.execPhy s
  | .tcd => Sys2Proof.Machine.execTcd s
  | .rts => Sys2Proof.Machine.execRts s
  | .pla => Sys2Proof.Machine.execPla s
  | .rorAcc => Sys2Proof.Machine.execRorAcc s
  | .rtl => Sys2Proof.Machine.execRtl s
  | .sei => Sys2Proof.Machine.execSei s
  | .ply => Sys2Proof.Machine.execPly s
  | .tdc => Sys2Proof.Machine.execTdc s
  | .dey => Sys2Proof.Machine.execDey s
  | .txa => Sys2Proof.Machine.execTxa s
  | .phb => Sys2Proof.Machine.execPhb s
  | .tya => Sys2Proof.Machine.execTya s
  | .txs => Sys2Proof.Machine.execTxs s
  | .txy => Sys2Proof.Machine.execTxy s
  | .tay => Sys2Proof.Machine.execTay s
  | .tax => Sys2Proof.Machine.execTax s
  | .plb => Sys2Proof.Machine.execPlb s
  | .clv => Sys2Proof.Machine.execClv s
  | .tsx => Sys2Proof.Machine.execTsx s
  | .tyx => Sys2Proof.Machine.execTyx s
  | .iny => Sys2Proof.Machine.execIny s
  | .dex => Sys2Proof.Machine.execDex s
  | .wai => Sys2Proof.Machine.execWai s
  | .cld => Sys2Proof.Machine.execCld s
  | .phx => Sys2Proof.Machine.execPhx s
  | .stp => Sys2Proof.Machine.execStp s
  | .inx => Sys2Proof.Machine.execInx s
  | .nop => Sys2Proof.Machine.execNop s
  | .xba => Sys2Proof.Machine.execXba s
  | .sed => Sys2Proof.Machine.execSed s
  | .plx => Sys2Proof.Machine.execPlx s
  | .xce => Sys2Proof.Machine.execXce s

end Sys2Proof.Machine
end

