-- ==== Sys2Proof/Machine/Fetch.lean ====
section
/-! DEFINITION. The instruction fetch (R67), the decoding of what was fetched under the live flags (R94, R362), the check
for an unimplemented entry (R360, R381), and the state that holds a given word where the next fetch reads. -/

namespace Sys2Proof.Machine

/-- R67 `Fetch(k)`: the byte at `PBR:((PC + k) mod 0x10000)`. -/
def State.fetch (s : State) (k : Nat) : Byte := s.readMem (addr s.pbr (s.pc + BitVec.ofNat 16 k))

/-- The bytes an instruction can take: the longest has four (R90). -/
def State.fetchBytes (s : State) : List Byte := [s.fetch 0, s.fetch 1, s.fetch 2, s.fetch 3]

/-- R94, R362: the instruction that the fetched bytes hold under the flags as they are now. -/
def State.fetchInstr (s : State) : Except DecodeError Instr :=
  (decode s.flagM s.flagX s.fetchBytes).map Prod.fst

/-- R96, R381: the entry of an opcode is unimplemented, for a given set `UNIMPL`. -/
def unimplementedIn (unimpl : List Byte) (op : Byte) : Bool := unimpl.contains op

/-- R360: the check the step makes before anything else. -/
def unimplementedEntry (op : Byte) (P : Parameters := .std) : Bool := unimplementedIn P.unimpl op

/-- R62, R67: bytes placed from `PBR:PC` on, wrapping inside the bank. -/
def State.placeBytes (s : State) (off : Word) : List Byte → State
  | [] => s
  | b :: rest => (s.writeMem (addr s.pbr off) b).placeBytes (off + 1) rest

/-- The accumulator width flag put to `m`; a 0 needs native mode (R32). -/
def State.withM (s : State) (m : Bool) : State :=
  { s with e := s.e && m, p := putFlag s.p maskM m }

/-- The index width flag put to `x`; a 0 needs native mode (R32), a 1 clears the high bytes (R24). -/
def State.withX (s : State) (x : Bool) : State :=
  { s with
    e := s.e && x
    p := putFlag s.p maskX x
    x := if x then word (lo s.x) 0x00 else s.x
    y := if x then word (lo s.y) 0x00 else s.y }

/-- The width flag that an opcode's row of `nbits` bits needs (R93): only the twelve width-dependent immediates need
one. -/
def State.withTableFlags (s : State) (op : Byte) (nbits : Nat) : State :=
  if mimm.contains op then s.withM (tableFlag nbits)
  else if ximm.contains op then s.withX (tableFlag nbits)
  else s

end Sys2Proof.Machine
end

