-- ==== Sys2Proof/Machine/Step.lean ====
section
/-! DEFINITION. The step (R360) and the state whose next step runs a given table word. -/

namespace Sys2Proof.Machine

/-- R360 `step()`: fetch, check for an unimplemented entry, select by the live flags, execute. The count that the step
returns is what it added to `CYC` (`stepCount`). -/
def step (s : State) : Host.Outcome State Fault Refusal :=
  if unimplementedEntry (s.fetch 0) then .fault (.unimplementedInstruction (s.fetch 0))
  else
    match s.fetchInstr with
    | .ok i => exec i s
    | .error e => .refused (.undecodedBytes e)

/-- R368, R369: the cycle count that a completed `step` returned, read off the accumulator of 64 bits, which no count fills. At
any parameters `stepWith` returns it (Machine/Parametric.lean). -/
def stepCount (before after : State) : CycleCount := after.cyc - before.cyc

/-- `s` with the instruction of a table word stored where `step` fetches next, and with the width flag its row needs. -/
def State.withFetchWord (s : State) (nbits w : Nat) : State :=
  (s.placeBytes s.pc (tableBytes nbits w)).withTableFlags (BitVec.ofNat 8 w) nbits

end Sys2Proof.Machine
end

