-- ==== Sys2Proof/Machine/HostOps.lean ====
section
/-! DEFINITION. The operations of the host, between steps only (R369, R418): `reset` (R410), `set_program_counter` (R412),
memory population and the observation of memory (R81). `step` is in Machine/Step.lean. -/

namespace Sys2Proof.Machine

/-- R410 `reset()`, in the order the spec lists, from the vector `VEC_RESET`; everything it does not name keeps its value. -/
def hostReset (s : State) (P : Parameters := .std) : State :=
  let cleared := ((((s.setE true).setFlag maskD false).setFlag maskI true).setD 0x0000).setDbr 0x00
  let based := cleared.setPbr 0x00
  { based.setPc (based.readVector P.vecReset) with cyc := 0 }

/-- R412 `set_program_counter(v)`. -/
def hostSetProgramCounter (s : State) (v : Word) : State := s.setPc v

/-- R81, R418: one byte of memory population. -/
def hostWrite (s : State) (a : Addr) (v : Byte) : State := s.writeMem a v

/-- R418: the observation of one byte of memory. -/
def hostRead (s : State) (a : Addr) : Byte := s.readMem a

/-- R411: a run of bytes placed at ascending addresses, as a loader populates memory. -/
def hostLoad (s : State) (a : Addr) : List Byte → State
  | [] => s
  | b :: rest => hostLoad (hostWrite s a b) (a + 1) rest

end Sys2Proof.Machine
end

