-- ==== Sys2Proof/Machine/Parametric.lean ====
section
/-! DEFINITION. The machine with the parameters of R4 as an argument: an entry of any `OPTABLE` executed by composing its mode with
its operator (R363: "an enumeration with an interpreter"), the state with a cycle accumulator of any width, and the step of R360
on it. The operators and modes are those that the meanings of `exec` are made of. -/

namespace Sys2Proof.Machine

/-! ## What a mode hands to the operator (R120) -/

/-- R128: the location of the two immediates of fixed size. -/
def fixedImm : Operand → Option (Formed Loc)
  | .imm8 k => some ⟨2, .imm (word k 0x00), 0⟩
  | .imm16 v => some ⟨3, .imm v, 0⟩
  | .imp | .stk | .acc | .immM8 _ | .immM16 _ | .immX8 _ | .immX16 _ | .sig _ => none
  | .dp _ | .dpx _ | .dpy _ | .idp _ | .idpx _ | .idpy _ | .ildp _ | .ildpy _ | .sr _ | .isry _ => none
  | .abs _ | .absx _ | .absy _ | .long _ | .longx _ => none
  | .rel8 _ | .rel16 _ | .pabs _ | .iabs _ | .iabsx _ | .ilabs _ | .plong _ | .move _ _ => none

/-- R120, R150: the operand location of a mode that forms one. -/
def locOf (mn : Mnemonic) (o : Operand) (s : State) (P : Parameters := .std) : Option (Formed Loc) :=
  match modeLoc mn o s P with
  | some f => some f
  | none => fixedImm o

/-- R144 to R148, R151: the offset of the jump target of a mode that forms one, `target[15:0]`. -/
def nearTarget (o : Operand) (s : State) : Option (Formed Word) :=
  match o with
  | .rel8 disp => some (modeRel8 disp s)
  | .rel16 disp => some (modeRel16 disp s)
  | .pabs aa => some (modePabs aa)
  | .iabs aa => some (modeIabs aa s)
  | .iabsx aa => some (modeIabsx aa s)
  | .plong al => some ⟨4, offOf al, 0⟩
  | .ilabs aa => some ⟨3, offOf (modeIlabs aa s).operand, 0⟩
  | .imp | .stk | .acc | .immM8 _ | .immM16 _ | .immX8 _ | .immX16 _ | .imm8 _ | .imm16 _ | .sig _ => none
  | .dp _ | .dpx _ | .dpy _ | .idp _ | .idpx _ | .idpy _ | .ildp _ | .ildpy _ | .sr _ | .isry _ => none
  | .abs _ | .absx _ | .absy _ | .long _ | .longx _ | .move _ _ => none

/-- The same target with its bank: a mode that forms no bank stays in the program bank (R144 to R147, R151). -/
def farTarget (o : Operand) (s : State) : Option (Formed Addr) :=
  match o with
  | .plong al => some (modePlong al)
  | .ilabs aa => some (modeIlabs aa s)
  | _ => (nearTarget o s).map fun f => ⟨f.len, addr s.pbr f.operand, f.adj⟩

/-- The length and the cycles of any mode, for an operator that takes no operand. -/
def lenAdjOf (mn : Mnemonic) (o : Operand) (s : State) (P : Parameters := .std) : Formed Unit :=
  match locOf mn o s P with
  | some f => ⟨f.len, (), f.adj⟩
  | none => ⟨1 + o.bytes.length, (), 0⟩

/-- An operator on the operand its mode formed; a mode that forms none of the kind has no meaning with it. -/
def applied {α : Type} (mn : Mnemonic) (o : Operand) (f : Option (Formed α)) (g : Formed α → Counted) : Counted :=
  match f with
  | some f => g f
  | none => .refused (.operandMismatch mn o)

/-- The mask of REP and SEP (R320, R321): the low byte of the operand. -/
def maskOfLoc (s : State) (f : Formed Loc) : Formed Byte := ⟨f.len, lo (s.locRead f.operand .w8), f.adj⟩

/-- The value that PEA pushes (R304): the 16-bit operand. -/
def valueOfLoc (s : State) (f : Formed Loc) : Formed Word := ⟨f.len, s.locRead f.operand .w16, f.adj⟩

/-- The pointer that PEI pushes (R305), formed by its one mode. -/
def pointerOf (o : Operand) (s : State) : Option (Formed Word) :=
  match o with
  | .idp dd => some (modeIdpPointer dd s)
  | _ => none

/-- The destination bank of a block move and its two locations (R149). -/
def moveOf (o : Operand) (s : State) : Option (Byte × Formed (Loc × Loc)) :=
  match o with
  | .move dst src => some (dst, modeMove dst src s)
  | _ => none

/-- R340: the block-move operator where the mode is that of a block move. -/
def blockMove (op : Byte) (dir : Word) (mn : Mnemonic) (o : Operand) (s : State) (P : Parameters := .std) : Counted :=
  match moveOf o s with
  | some (dst, f) => moveWith op dir dst f s P
  | none => .refused (.operandMismatch mn o)

/-! ## An entry executed -/

/-- R360, R363: the entry that binds the mnemonic `mn` to the mode of the operand `o`, fetched at the opcode byte `op`, which gives
the base count: `Mode[entry.mode]`, then `Operator[entry.mnemonic]`. -/
def execEntry (P : Parameters) (op : Byte) (mn : Mnemonic) (o : Operand) (s : State) : Counted :=
  let loc := applied mn o (locOf mn o s P)
  let near := applied mn o (nearTarget o s)
  let far := applied mn o (farTarget o s)
  let bare := lenAdjOf mn o s P
  match mn with
  | .brk => trapWith op P.vecBrkN P.vecBrkE bare s P
  | .ora => loc fun f => oraWith op f s P
  | .cop => trapWith op P.vecCopN P.vecCopE bare s P
  | .tsb => loc fun f => tsbWith op f s P
  | .asl => loc fun f => aslWith op f s P
  | .php => phpWith op bare s P
  | .phd => phdWith op bare s P
  | .bpl => near fun f => branchWith op (!s.flagN) f s P
  | .trb => loc fun f => trbWith op f s P
  | .clc => clcWith op bare s P
  | .inc => loc fun f => incWith op f s P
  | .tcs => tcsWith op bare s P
  | .jsr => near fun f => jsrWith op f s P
  | .and => loc fun f => andWith op f s P
  | .jsl => far fun f => jslWith op f s P
  | .bit => loc fun f => bitWith op f s P
  | .rol => loc fun f => rolWith op f s P
  | .plp => plpWith op bare s P
  | .pld => pldWith op bare s P
  | .bmi => near fun f => branchWith op s.flagN f s P
  | .sec => secWith op bare s P
  | .dec => loc fun f => decWith op f s P
  | .tsc => tscWith op bare s P
  | .rti => rtiWith op bare s P
  | .eor => loc fun f => eorWith op f s P
  | .wdm => wdmWith op bare s P
  | .mvp => blockMove op (-1) mn o s P
  | .lsr => loc fun f => lsrWith op f s P
  | .pha => phaWith op bare s P
  | .phk => phkWith op bare s P
  | .jmp => near fun f => jmpWith op f s P
  | .bvc => near fun f => branchWith op (!s.flagV) f s P
  | .mvn => blockMove op 1 mn o s P
  | .cli => cliWith op bare s P
  | .phy => phyWith op bare s P
  | .tcd => tcdWith op bare s P
  | .jml => far fun f => jmlWith op f s P
  | .rts => rtsWith op bare s P
  | .adc => loc fun f => adcWith op f s P
  | .per => near fun f => pushEffective op f s P
  | .stz => loc fun f => stzWith op f s P
  | .ror => loc fun f => rorWith op f s P
  | .pla => plaWith op bare s P
  | .rtl => rtlWith op bare s P
  | .bvs => near fun f => branchWith op s.flagV f s P
  | .sei => seiWith op bare s P
  | .ply => plyWith op bare s P
  | .tdc => tdcWith op bare s P
  | .bra => near fun f => branchWith op true f s P
  | .sta => loc fun f => staWith op f s P
  | .brl => near fun f => brlWith op f s P
  | .sty => loc fun f => styWith op f s P
  | .stx => loc fun f => stxWith op f s P
  | .dey => deyWith op bare s P
  | .txa => txaWith op bare s P
  | .phb => phbWith op bare s P
  | .bcc => near fun f => branchWith op (!s.flagC) f s P
  | .tya => tyaWith op bare s P
  | .txs => txsWith op bare s P
  | .txy => txyWith op bare s P
  | .ldy => loc fun f => ldyWith op f s P
  | .lda => loc fun f => ldaWith op f s P
  | .ldx => loc fun f => ldxWith op f s P
  | .tay => tayWith op bare s P
  | .tax => taxWith op bare s P
  | .plb => plbWith op bare s P
  | .bcs => near fun f => branchWith op s.flagC f s P
  | .clv => clvWith op bare s P
  | .tsx => tsxWith op bare s P
  | .tyx => tyxWith op bare s P
  | .cpy => loc fun f => cpyWith op f s P
  | .cmp => loc fun f => cmpWith op f s P
  | .rep => loc fun f => repWith op (maskOfLoc s f) s P
  | .iny => inyWith op bare s P
  | .dex => dexWith op bare s P
  | .wai => waiWith op s
  | .bne => near fun f => branchWith op (!s.flagZ) f s P
  | .pei => applied mn o (pointerOf o s) fun f => pushEffective op f s P
  | .cld => cldWith op bare s P
  | .phx => phxWith op bare s P
  | .stp => stpWith op s
  | .cpx => loc fun f => cpxWith op f s P
  | .sbc => loc fun f => sbcWith op f s P
  | .sep => loc fun f => sepWith op (maskOfLoc s f) s P
  | .inx => inxWith op bare s P
  | .nop => nopWith op bare s P
  | .xba => xbaWith op bare s P
  | .beq => near fun f => branchWith op s.flagZ f s P
  | .pea => loc fun f => pushEffective op (valueOfLoc s f) s P
  | .sed => sedWith op bare s P
  | .plx => plxWith op bare s P
  | .xce => xceWith op bare s P

/-! ## The state with a cycle accumulator of any width -/

/-- The state of the block (R20) with `CYC` of `width` bits (R4 `CYC_WIDTH`, R45): `State` has the default 64. -/
structure StateAt (width : Nat) where
  c : Word
  x : Word
  y : Word
  sp : Word
  d : Word
  dbr : Byte
  pbr : Byte
  pc : Word
  p : Byte
  e : Bool
  mem : Memory
  cyc : BitVec width
  deriving DecidableEq, Repr

/-- The eleven items beside `CYC` as a state of the default width; its `CYC` is the low 64 bits, which no mode and no operator
reads or writes (R368). -/
def StateAt.view {width : Nat} (s : StateAt width) : State where
  c := s.c
  x := s.x
  y := s.y
  sp := s.sp
  d := s.d
  dbr := s.dbr
  pbr := s.pbr
  pc := s.pc
  p := s.p
  e := s.e
  mem := s.mem
  cyc := s.cyc.setWidth 64

/-- The eleven items of a state with a given `CYC`. -/
def State.withCyc (t : State) {width : Nat} (cyc : BitVec width) : StateAt width where
  c := t.c
  x := t.x
  y := t.y
  sp := t.sp
  d := t.d
  dbr := t.dbr
  pbr := t.pbr
  pc := t.pc
  p := t.p
  e := t.e
  mem := t.mem
  cyc := cyc

/-- A state as one with a `CYC` of 64 bits. -/
def State.atWidth (t : State) : StateAt 64 := t.withCyc t.cyc

/-! ## The operations of the block (R369) -/

/-- R94: the cell that the bytes fetched and the live flags select. -/
def State.selectedCell (s : State) (P : Parameters := .std) : TableCell := P.optable.select s.flagM s.flagX (s.fetch 0)

/-- R92: the operand of that cell's mode. -/
def State.selectedOperand (s : State) (P : Parameters := .std) : Operand :=
  (s.selectedCell P).mode.operand s.flagM s.flagX (s.fetch 1) (s.fetch 2) (s.fetch 3)

/-- R360 `step()` at the parameters `P`: the next state with the cycle count that the step returns, or the failure. `CYC` grows
by the count modulo `2^CYC_WIDTH` (R368). -/
def stepWith (P : Parameters) (s : StateAt P.cycWidth) : Host.Outcome (StateAt P.cycWidth × Int) Fault Refusal :=
  let v := s.view
  if unimplementedEntry (v.fetch 0) P then .fault (.unimplementedInstruction (v.fetch 0))
  else
    match execEntry P (v.fetch 0) (v.selectedCell P).mnemonic (v.selectedOperand P) v with
    | .next (t, cycles) => .next (t.withCyc (s.cyc + BitVec.ofInt P.cycWidth cycles), cycles)
    | .fault e => .fault e
    | .refused e => .refused e

/-- R410 `reset()` at the parameters `P`. -/
def resetWith (P : Parameters) (s : StateAt P.cycWidth) : StateAt P.cycWidth := (hostReset s.view P).withCyc 0

/-- R412 `set_program_counter(v)` at any width of `CYC`. -/
def StateAt.setProgramCounter {width : Nat} (s : StateAt width) (v : Word) : StateAt width :=
  (hostSetProgramCounter s.view v).withCyc s.cyc

/-- R81, R418: one byte of memory population at any width of `CYC`. -/
def StateAt.populate {width : Nat} (s : StateAt width) (a : Addr) (v : Byte) : StateAt width :=
  (hostWrite s.view a v).withCyc s.cyc

end Sys2Proof.Machine
end

