-- ==== Sys2Proof/Machine/Launch.lean ====
section
/-! DEFINITION. The launch state (R413): the state a host builds before the first step. Its type holds no state that breaks the
invariants IX, IS and IE (R24, R25, R32): the mode says which register halves there are. The values that R48 leaves
unspecified (`RESET_C` to `RESET_CARRY`, `MEM_INIT`) are fields of it, any value of each. -/

namespace Sys2Proof.Machine

/-- The index registers, the stack pointer and the width flags, as far as the mode leaves them free. -/
inductive LaunchMode where
  /-- `E = 1`: `m = x = 1`, the high bytes of `X` and `Y` are 0x00 and that of `S` is 0x01. -/
  | emulation (xl yl sl : Byte)
  /-- `E = 0` and `x = 1`: the high bytes of `X` and `Y` are 0x00. -/
  | native8 (m : Bool) (xl yl : Byte) (sp : Word)
  /-- `E = 0` and `x = 0`. -/
  | native16 (m : Bool) (x y sp : Word)
  deriving DecidableEq, Repr

/-- R413, R48: what a launch state is made of. -/
structure Launch where
  c : Word
  mode : LaunchMode
  d : Word
  dbr : Byte
  pbr : Byte
  pc : Word
  n : Bool
  v : Bool
  decimal : Bool
  i : Bool
  z : Bool
  carry : Bool
  /-- The bytes of memory that are given; of two for one address the first counts, and any other byte is
  `Config.memInit`. -/
  cells : List (Addr × Byte)
  /-- `CYC`, taken modulo `2^CYC_WIDTH`. -/
  cyc : Nat
  deriving DecidableEq, Repr

/-- `E` of a launch mode. -/
def LaunchMode.e : LaunchMode → Bool
  | .emulation _ _ _ => true
  | .native8 _ _ _ _ => false
  | .native16 _ _ _ _ => false

/-- `P.m` of a launch mode. -/
def LaunchMode.m : LaunchMode → Bool
  | .emulation _ _ _ => true
  | .native8 m _ _ _ => m
  | .native16 m _ _ _ => m

/-- `P.x` of a launch mode. -/
def LaunchMode.xFlag : LaunchMode → Bool
  | .emulation _ _ _ => true
  | .native8 _ _ _ _ => true
  | .native16 _ _ _ _ => false

/-- `X` of a launch mode. -/
def LaunchMode.x : LaunchMode → Word
  | .emulation xl _ _ => word xl 0x00
  | .native8 _ xl _ _ => word xl 0x00
  | .native16 _ x _ _ => x

/-- `Y` of a launch mode. -/
def LaunchMode.y : LaunchMode → Word
  | .emulation _ yl _ => word yl 0x00
  | .native8 _ _ yl _ => word yl 0x00
  | .native16 _ _ y _ => y

/-- `S` of a launch mode. -/
def LaunchMode.sp : LaunchMode → Word
  | .emulation _ _ sl => word sl 0x01
  | .native8 _ _ _ sp => sp
  | .native16 _ _ _ sp => sp

/-- The memory that holds the given bytes. -/
def launchMemory : List (Addr × Byte) → Memory
  | [] => []
  | (a, v) :: rest => memWrite (launchMemory rest) a.toNat v

/-- R30: the status byte of a launch state. -/
def Launch.status (l : Launch) : Byte :=
  BitVec.ofBool l.n ++ BitVec.ofBool l.v ++ BitVec.ofBool l.mode.m ++ BitVec.ofBool l.mode.xFlag ++ BitVec.ofBool l.decimal
    ++ BitVec.ofBool l.i ++ BitVec.ofBool l.z ++ BitVec.ofBool l.carry

/-- The state that a launch builds. -/
def Launch.state (l : Launch) : State where
  c := l.c
  x := l.mode.x
  y := l.mode.y
  sp := l.mode.sp
  d := l.d
  dbr := l.dbr
  pbr := l.pbr
  pc := l.pc
  p := l.status
  e := l.mode.e
  mem := launchMemory l.cells
  cyc := BitVec.ofNat Config.cycWidth l.cyc

/-- The state that a launch builds at the parameters `P`. -/
def Launch.stateWith (l : Launch) (P : Parameters) : StateAt P.cycWidth := l.state.withCyc (BitVec.ofNat P.cycWidth l.cyc)

/-- R413, R410: the launch state after the host's `reset`: the state before the first step. -/
def Launch.afterReset (l : Launch) : State := hostReset l.state

end Sys2Proof.Machine
end

