-- ==== Sys2Proof/Safety.lean ====
section
/-! DEFINITION. The invariants of the block (R24, R25, R32) with the canonical form of memory, and what counts as a safe
step: one that completes in a state that keeps them, or the one failure the spec names (R16). -/

namespace Sys2Proof.Machine

/-- Invariant IX (R24): `P.x = 1` pins the high bytes of X and Y to zero. -/
abbrev InvIX (s : State) : Prop := s.flagX = true → hi s.x = 0x00 ∧ hi s.y = 0x00

/-- Invariant IS (R25): `E = 1` pins the high byte of the stack pointer to 0x01. -/
abbrev InvIS (s : State) : Prop := s.e = true → hi s.sp = 0x01

/-- Invariant IE (R32): `E = 1` forces `m` and `x` to 1. -/
abbrev InvIE (s : State) : Prop := s.e = true → s.flagM = true ∧ s.flagX = true

/-- The invariants of the block and the canonical form of memory. -/
abbrev Inv (s : State) : Prop := InvIX s ∧ InvIS s ∧ InvIE s ∧ s.mem.wf = true

/-- R16: the two outcomes of a step; the only failure is that of an opcode in `UNIMPL`. -/
def SafeOutcome (s : State) (o : Outcome) : Prop :=
  (∃ t, o = .next t ∧ Inv t) ∨
    (o = .fault (.unimplementedInstruction (s.fetch 0)) ∧ unimplementedEntry (s.fetch 0) = true)

end Sys2Proof.Machine
end

