-- ==== Sys2Proof/Certificates/Slice0/Obligations.lean ====
section
/-! DEFINITION. The statements for the provers. The words they share (`Sys2Proof.Claims`) are written from the spec's own
formulas over natural numbers and bytes of memory, not from the definitions of the model, so that a statement can fail if
a meaning is wrong; where a statement needs the location of an operand it takes the one `modeLoc` forms, whose formulas
are stated on their own. -/

namespace Sys2Proof.Claims

open Sys2Proof.Machine

/-! ## Widths, values, flags -/

/-- R10: `2^W(f)` for the width flag `f`. -/
def size (f : Bool) : Nat := if f then 0x100 else 0x10000

/-- R10: the number of the top bit of the width of the flag `f`. -/
def top (f : Bool) : Nat := if f then 7 else 15

/-- R36: the accumulator at the width the flag `m` gives, as a number. -/
def acc (s : State) : Nat := s.c.toNat % size s.flagM

/-- R36: `C` after a result of the accumulator's width was written: an 8-bit result keeps `B` (R22). -/
def putAcc (s : State) (r : Nat) : Nat := if s.flagM then s.c.toNat / 0x100 * 0x100 + r else r

/-- One byte of memory, at an offset taken modulo the bank (R61), as a number. -/
def byteAt (s : State) (bank : Byte) (off : Nat) : Nat := (s.readMem (addr bank (BitVec.ofNat 16 off))).toNat

/-- R40, R62: the addresses of the bytes of a location at the width of the flag `f`, the lower one first. -/
def bytesOf (loc : Loc) (f : Bool) : List Addr :=
  match loc with
  | .memBank bank off => if f then [addr bank off] else [addr bank off, addr bank (off + 1)]
  | .memLong a => if f then [a] else [a, a + 1]
  | .imm _ => []
  | .regA => []

/-- R41, R62: the value of a location at the width of the flag `f`, as a number. -/
def value (s : State) (loc : Loc) (f : Bool) : Nat :=
  match loc with
  | .memBank bank off =>
    (s.readMem (addr bank off)).toNat + if f then 0 else 0x100 * (s.readMem (addr bank (off + 1))).toNat
  | .memLong a => (s.readMem a).toNat + if f then 0 else 0x100 * (s.readMem (a + 1)).toNat
  | .imm v => v.toNat % size f
  | .regA => s.c.toNat % size f

/-- R11: n and z are those of the result `r` at the width of the flag `f`. -/
def SetsNZ (t : State) (f : Bool) (r : Nat) : Prop := t.flagN = r.testBit (top f) ∧ t.flagZ = decide (r = 0)

/-- The flags of a mask are as they were. -/
def Keeps (mask : Byte) (s t : State) : Prop := t.p &&& mask = s.p &&& mask

/-- Every byte of memory outside a list of addresses reads as it did. -/
def OnlyStores (as : List Addr) (s t : State) : Prop := ∀ a, a ∉ as → t.readMem a = s.readMem a

/-! ## Direct page and pointers -/

/-- R66 `DPAddr(t)` at the default of `DP_E_WRAP`. -/
def dpOff (s : State) (t : Nat) : Nat :=
  if s.e = true ∧ s.d.toNat % 0x100 = 0 then s.d.toNat / 0x100 * 0x100 + t % 0x100 else (s.d.toNat + t) % 0x10000

/-- R82 `PtrDP16(t)`. -/
def dpPtr (s : State) (t : Nat) : Nat := byteAt s 0x00 (dpOff s t) + 0x100 * byteAt s 0x00 (dpOff s (t + 1))

/-- R82 `PtrDPN16(t)`: never page-wrapped. -/
def dpPtrN (s : State) (t : Nat) : Nat :=
  byteAt s 0x00 ((s.d.toNat + t) % 0x10000) + 0x100 * byteAt s 0x00 ((s.d.toNat + t + 1) % 0x10000)

/-- R82 `PtrDPN24(t)`. -/
def dpPtrLong (s : State) (t : Nat) : Nat := dpPtrN s t + 0x10000 * byteAt s 0x00 ((s.d.toNat + t + 2) % 0x10000)

/-- R121 `DLpen`. -/
def dlCycle (s : State) : Int := if s.d.toNat % 0x100 = 0 then 0 else 1

/-! ## The stack -/

/-- R34: a stack-pointer value after `SetS`: in emulation mode it lies in page 0x01. -/
def inPage (e : Bool) (sp : Word) : Word := if e then word (lo sp) 0x01 else sp

/-- R68: the stack pointer after `k` pushes of one byte. -/
def spDown (e : Bool) : Nat → Word → Word
  | 0, sp => sp
  | k + 1, sp => spDown e k (inPage e (sp - 1))

/-- R69: the stack pointer after `k` pulls of one byte. -/
def spUp (e : Bool) : Nat → Word → Word
  | 0, sp => sp
  | k + 1, sp => spUp e k (inPage e (sp + 1))

/-- R68: the address of the byte that push number `k` (from 0) of an instruction stores. -/
def pushedAt (s : State) (k : Nat) : Addr := addr 0x00 (spDown s.e k s.sp)

/-- R68: from `s` to `t` the bytes of the list are pushed in its order, and no other byte of memory changes. -/
def Pushes (bytes : List Byte) (s t : State) : Prop :=
  t.sp = spDown s.e bytes.length s.sp ∧
    (∀ k, k < bytes.length → t.readMem (pushedAt s k) = bytes.getD k 0x00) ∧
    ∀ a, (∀ k, k < bytes.length → a ≠ pushedAt s k) → t.readMem a = s.readMem a

/-- R69: the byte that pull number `k` (from 0) of an instruction reads. -/
def pulled (s : State) (k : Nat) : Byte := s.readMem (addr 0x00 (spUp s.e (k + 1) s.sp))

/-! ## Cycles -/

/-- The penalty classes of R365. -/
inductive Pen where
  | mi | xi | m1 | x1 | m2 | acc | dl | px | e0 | br
  deriving DecidableEq, Repr

/-- The column "pen" of R425, one list per high nibble of the opcode, one cell per low nibble. -/
def penRow : Nat → List (List Pen)
  | 0x0 => [[.e0], [.m1, .dl], [.e0], [.m1], [.m2, .dl], [.m1, .dl], [.m2, .dl], [.m1, .dl], [], [.mi], [.m2, .acc],
      [], [.m2], [.m1], [.m2], [.m1]]
  | 0x1 => [[.br], [.m1, .dl, .px], [.m1, .dl], [.m1], [.m2, .dl], [.m1, .dl], [.m2, .dl], [.m1, .dl], [],
      [.m1, .px], [.m2, .acc], [], [.m2], [.m1, .px], [.m2], [.m1]]
  | 0x2 => [[], [.m1, .dl], [], [.m1], [.m1, .dl], [.m1, .dl], [.m2, .dl], [.m1, .dl], [], [.mi], [.m2, .acc], [],
      [.m1], [.m1], [.m2], [.m1]]
  | 0x3 => [[.br], [.m1, .dl, .px], [.m1, .dl], [.m1], [.m1, .dl], [.m1, .dl], [.m2, .dl], [.m1, .dl], [],
      [.m1, .px], [.m2, .acc], [], [.m1, .px], [.m1, .px], [.m2], [.m1]]
  | 0x4 => [[.e0], [.m1, .dl], [], [.m1], [], [.m1, .dl], [.m2, .dl], [.m1, .dl], [.m1], [.mi], [.m2, .acc], [], [],
      [.m1], [.m2], [.m1]]
  | 0x5 => [[.br], [.m1, .dl, .px], [.m1, .dl], [.m1], [], [.m1, .dl], [.m2, .dl], [.m1, .dl], [], [.m1, .px],
      [.x1], [], [], [.m1, .px], [.m2], [.m1]]
  | 0x6 => [[], [.m1, .dl], [], [.m1], [.m1, .dl], [.m1, .dl], [.m2, .dl], [.m1, .dl], [.m1], [.mi], [.m2, .acc],
      [], [], [.m1], [.m2], [.m1]]
  | 0x7 => [[.br], [.m1, .dl, .px], [.m1, .dl], [.m1], [.m1, .dl], [.m1, .dl], [.m2, .dl], [.m1, .dl], [],
      [.m1, .px], [.x1], [], [], [.m1, .px], [.m2], [.m1]]
  | 0x8 => [[.br], [.m1, .dl], [], [.m1], [.x1, .dl], [.m1, .dl], [.x1, .dl], [.m1, .dl], [], [.mi], [], [], [.x1],
      [.m1], [.x1], [.m1]]
  | 0x9 => [[.br], [.m1, .dl], [.m1, .dl], [.m1], [.x1, .dl], [.m1, .dl], [.x1, .dl], [.m1, .dl], [], [.m1], [], [],
      [.m1], [.m1], [.m1], [.m1]]
  | 0xA => [[.xi], [.m1, .dl], [.xi], [.m1], [.x1, .dl], [.m1, .dl], [.x1, .dl], [.m1, .dl], [], [.mi], [], [],
      [.x1], [.m1], [.x1], [.m1]]
  | 0xB => [[.br], [.m1, .dl, .px], [.m1, .dl], [.m1], [.x1, .dl], [.m1, .dl], [.x1, .dl], [.m1, .dl], [],
      [.m1, .px], [], [], [.x1, .px], [.m1, .px], [.x1, .px], [.m1]]
  | 0xC => [[.xi], [.m1, .dl], [], [.m1], [.x1, .dl], [.m1, .dl], [.m2, .dl], [.m1, .dl], [], [.mi], [], [], [.x1],
      [.m1], [.m2], [.m1]]
  | 0xD => [[.br], [.m1, .dl, .px], [.m1, .dl], [.m1], [.dl], [.m1, .dl], [.m2, .dl], [.m1, .dl], [], [.m1, .px],
      [.x1], [], [], [.m1, .px], [.m2], [.m1]]
  | 0xE => [[.xi], [.m1, .dl], [], [.m1], [.x1, .dl], [.m1, .dl], [.m2, .dl], [.m1, .dl], [], [.mi], [], [], [.x1],
      [.m1], [.m2], [.m1]]
  | 0xF => [[.br], [.m1, .dl, .px], [.m1, .dl], [.m1], [], [.m1, .dl], [.m2, .dl], [.m1, .dl], [], [.m1, .px],
      [.x1], [], [], [.m1, .px], [.m2], [.m1]]
  | _ => []

/-- R425: the penalty classes of an opcode. -/
def penOf (op : Byte) : List Pen := (penRow (op.toNat / 16)).getD (op.toNat % 16) []

/-- R14, R123: adding the index of the mode changes the high byte of the offset. -/
def indexCrosses (o : Operand) (s : State) : Bool :=
  match o with
  | .absx aa => decide (aa.toNat / 0x100 ≠ (aa.toNat + s.x.toNat) % 0x10000 / 0x100)
  | .absy aa => decide (aa.toNat / 0x100 ≠ (aa.toNat + s.y.toNat) % 0x10000 / 0x100)
  | .idpy dd => decide (dpPtr s dd.toNat / 0x100 ≠ (dpPtr s dd.toNat + s.y.toNat) % 0x10000 / 0x100)
  | _ => false

/-- R144: the offset after a two-byte branch. -/
def branchNext (s : State) : Nat := (s.pc.toNat + 2) % 0x10000

/-- R144: the target of a branch with the signed displacement `disp`. -/
def branchTarget (s : State) (disp : Byte) : Nat := ((branchNext s + disp.toInt) % 0x10000).toNat

/-- R259 to R267: whether a branch is taken. -/
def branchTaken (op : Mnemonic) (s : State) : Bool :=
  match op with
  | .bra => true
  | .bcc => !s.flagC
  | .bcs => s.flagC
  | .beq => s.flagZ
  | .bne => !s.flagZ
  | .bmi => s.flagN
  | .bpl => !s.flagN
  | .bvc => !s.flagV
  | .bvs => s.flagV
  | _ => false

/-- R258: the extra cycles of a branch that is taken. -/
def takenCycles (s : State) (disp : Byte) : Int :=
  if s.e = true ∧ branchNext s / 0x100 ≠ branchTarget s disp / 0x100 then 2 else 1

/-- R365: what a penalty class adds. -/
def charge (i : Instr) (s : State) : Pen → Int
  | .mi | .m1 => if s.flagM then 0 else 1
  | .xi | .x1 => if s.flagX then 0 else 1
  | .m2 => if s.flagM then 0 else 2
  | .acc => if s.flagM then 0 else -2
  | .dl => dlCycle s
  | .px => (indexCrosses i.operand s).toNat
  | .e0 => if s.e then 0 else 1
  | .br =>
    match i.operand with
    | .rel8 disp => if branchTaken i.mnemonic s then takenCycles s disp else 0
    | _ => 0

/-- The column "cyc" of R425, one list per high nibble of the opcode, one number per low nibble. -/
def baseRow : Nat → List Int
  | 0x0 => [7, 6, 7, 4, 5, 3, 5, 6, 3, 2, 2, 4, 6, 4, 6, 5]
  | 0x1 => [2, 5, 5, 7, 5, 4, 6, 6, 2, 4, 2, 2, 6, 4, 7, 5]
  | 0x2 => [6, 6, 8, 4, 3, 3, 5, 6, 4, 2, 2, 5, 4, 4, 6, 5]
  | 0x3 => [2, 5, 5, 7, 4, 4, 6, 6, 2, 4, 2, 2, 4, 4, 7, 5]
  | 0x4 => [6, 6, 2, 4, 7, 3, 5, 6, 3, 2, 2, 3, 3, 4, 6, 5]
  | 0x5 => [2, 5, 5, 7, 7, 4, 6, 6, 2, 4, 3, 2, 4, 4, 7, 5]
  | 0x6 => [6, 6, 6, 4, 3, 3, 5, 6, 4, 2, 2, 6, 5, 4, 6, 5]
  | 0x7 => [2, 5, 5, 7, 4, 4, 6, 6, 2, 4, 4, 2, 6, 4, 7, 5]
  | 0x8 => [2, 6, 4, 4, 3, 3, 3, 6, 2, 2, 2, 3, 4, 4, 4, 5]
  | 0x9 => [2, 6, 5, 7, 4, 4, 4, 6, 2, 5, 2, 2, 4, 5, 5, 5]
  | 0xA => [2, 6, 2, 4, 3, 3, 3, 6, 2, 2, 2, 4, 4, 4, 4, 5]
  | 0xB => [2, 5, 5, 7, 4, 4, 4, 6, 2, 4, 2, 2, 4, 4, 4, 5]
  | 0xC => [2, 6, 3, 4, 3, 3, 5, 6, 2, 2, 2, 3, 4, 4, 6, 5]
  | 0xD => [2, 5, 5, 7, 6, 4, 6, 6, 2, 4, 3, 3, 6, 4, 7, 5]
  | 0xE => [2, 6, 3, 4, 3, 3, 5, 6, 2, 2, 2, 3, 4, 4, 6, 5]
  | 0xF => [2, 5, 5, 7, 5, 4, 6, 6, 2, 4, 4, 2, 8, 4, 7, 5]
  | _ => []

/-- R425: the base cycle count of an opcode. -/
def baseOf (op : Byte) : Int := (baseRow (op.toNat / 16)).getD (op.toNat % 16) 0

/-- R364, R365: the cycle count of an instruction: its base count and what its classes add. -/
def cycles (i : Instr) (s : State) : Int := baseOf i.opcode + ((penOf i.opcode).map (charge i s)).sum

/-- R360, R368: the state in which nothing but `PC` (past the instruction) and `CYC` has changed. -/
def passed (i : Instr) (s : State) : State :=
  { s with pc := s.pc + BitVec.ofNat 16 i.length, cyc := s.cyc + BitVec.ofInt 64 (cycles i s) }

/-! ## Decimal arithmetic -/

/-- R162, digit by digit: the sum of the `n` lowest digits with the carry `c`: the value, the carry out, and the top
digit's sum before it is adjusted. -/
def decAdd : Nat → Nat → Nat → Bool → Nat × Bool × Nat
  | 0, _, _, c => (0, c, 0)
  | n + 1, a, b, c =>
    let sum := a % 16 + b % 16 + c.toNat
    let digit := if 9 < sum then sum + 6 else sum
    let rest := decAdd n (a / 16) (b / 16) (decide (15 < digit))
    (digit % 16 + 16 * rest.1, rest.2.1, if n = 0 then sum else rest.2.2)

/-- R164, digit by digit: the digits of `b` complemented; 6 is taken (10 added, modulo 16) where a digit gives no carry. -/
def decSub : Nat → Nat → Nat → Bool → Nat × Bool × Nat
  | 0, _, _, c => (0, c, 0)
  | n + 1, a, b, c =>
    let sum := a % 16 + (15 - b % 16) + c.toNat
    let digit := if sum ≤ 15 then sum + 10 else sum
    let rest := decSub n (a / 16) (b / 16) (decide (15 < sum))
    (digit % 16 + 16 * rest.1, rest.2.1, if n = 0 then sum else rest.2.2)

/-- R162: the number of decimal digits at the width of the flag `f`. -/
def digits (f : Bool) : Nat := if f then 2 else 4

/-- The `n` lowest digits are valid BCD. -/
def validBcd : Nat → Nat → Bool
  | 0, _ => true
  | n + 1, a => decide (a % 16 ≤ 9) && validBcd n (a / 16)

/-- The number that the `n` lowest digits write in decimal. -/
def decimal : Nat → Nat → Nat
  | 0, _ => 0
  | n + 1, a => a % 16 + 10 * decimal n (a / 16)

/-- The signed number of a value at the width of the flag `f` (R7 `signed_w`). -/
def signed (f : Bool) (v : Nat) : Int := if v.testBit (top f) then (v : Int) - size f else v

/-! ## Read-modify-write -/

/-- R165, R166, R185 to R190: the value an operator writes to its location: `v` read, `a` the accumulator, `c` the
carry. -/
def rmwValue (op : Mnemonic) (f : Bool) (v a c : Nat) : Nat :=
  match op with
  | .inc => (v + 1) % size f
  | .dec => (v + size f - 1) % size f
  | .asl => 2 * v % size f
  | .lsr => v / 2
  | .rol => (2 * v + c) % size f
  | .ror => v / 2 + c * (size f / 2)
  | .tsb => v ||| a
  | .trb => v &&& (size f - 1 - a)
  | _ => v

/-- R185 to R188: the carry a shift or rotate gives: the bit shifted out. -/
def shiftedOut (op : Mnemonic) (f : Bool) (v : Nat) : Bool :=
  match op with
  | .asl | .rol => v.testBit (top f)
  | _ => v.testBit 0

/-! ## Block move -/

/-- An instruction executed `n` times. -/
def repeated (i : Instr) : Nat → State → Option State
  | 0, s => some s
  | n + 1, s =>
    match exec i s with
    | .next t => repeated i n t
    | .fault _ => none
    | .refused _ => none

end Sys2Proof.Claims

section Statements

open Sys2Proof Sys2Proof.Machine Sys2Proof.Claims

/-! ## Encoding -/

/-- R91, R92, R94: for every instruction that the live flags select, with every operand, decoding its encoding gives it
back and leaves the bytes after it. -/
def Obligations.DecodeOfEncode : Prop :=
  ∀ (m x : Bool) (i : Instr) (rest : List Byte), i.wellFormed m x = true → decode m x (encode i ++ rest) = .ok (i, rest)

/-- R92, R94: what the decoder reads is what the encoder writes, and it is an instruction that the live flags select. -/
def Obligations.EncodeOfDecode : Prop :=
  ∀ (m x : Bool) (bytes : List Byte) (i : Instr) (rest : List Byte), decode m x bytes = .ok (i, rest) →
    encode i ++ rest = bytes ∧ i.wellFormed m x = true

/-- R90, R97: every opcode byte selects an entry, whatever the flags: four bytes always decode, to an instruction of that
opcode byte and of 1 to 4 bytes. -/
def Obligations.EveryByteSelectsAnEntry : Prop :=
  ∀ (m x : Bool) (op b1 b2 b3 : Byte), ∃ i rest, decode m x [op, b1, b2, b3] = .ok (i, rest) ∧ i.opcode = op ∧
    1 ≤ i.length ∧ i.length ≤ 4 ∧ rest = [op, b1, b2, b3].drop i.length

/-- R93, R94, R95: the eight MIMM opcodes take one operand byte when `m = 1` and two when `m = 0`, the four XIMM opcodes
follow `x` alike, and no other opcode's decoding depends on a flag. -/
def Obligations.LengthFollowsTheLiveFlags : Prop :=
  ∀ (m x : Bool) (op b1 b2 b3 : Byte) (i : Instr) (rest : List Byte), decode m x [op, b1, b2, b3] = .ok (i, rest) →
    (op ∈ [0x09, 0x29, 0x49, 0x69, 0x89, 0xA9, 0xC9, 0xE9] → i.length = if m then 2 else 3) ∧
    (op ∈ [0xA0, 0xA2, 0xC0, 0xE0] → i.length = if x then 2 else 3) ∧
    (op ∉ [0x09, 0x29, 0x49, 0x69, 0x89, 0xA9, 0xC9, 0xE9, 0xA0, 0xA2, 0xC0, 0xE0] →
      ∀ m' x', decode m' x' [op, b1, b2, b3] = .ok (i, rest))

/-- R91, R92, R100: words written out byte by byte from the tables decode to the instructions they stand for, one for each
format (F1 to F4, F2M and F2X at both widths, F3B) and at least one for each family. -/
def Obligations.WrittenOutWordsDecode : Prop :=
  decode true true [0x18] = .ok (.clc, []) ∧
  decode true true [0x69, 0x34] = .ok (.adcImmM8 0x34, []) ∧
  decode false true [0xA9, 0x34, 0x12] = .ok (.ldaImmM16 0x1234, []) ∧
  decode true true [0xA2, 0xCD] = .ok (.ldxImmX8 0xCD, []) ∧
  decode true false [0xA2, 0xCD, 0xAB] = .ok (.ldxImmX16 0xABCD, []) ∧
  decode true true [0xBF, 0x56, 0x34, 0x12] = .ok (.ldaLongx 0x123456, []) ∧
  decode true true [0x54, 0x7F, 0x7E] = .ok (.mvn 0x7F 0x7E, []) ∧
  decode true true [0x85, 0x12] = .ok (.staDp 0x12, []) ∧
  decode true true [0x1E, 0x00, 0x20] = .ok (.aslAbsx 0x2000, []) ∧
  decode true true [0xD1, 0x10] = .ok (.cmpIdpy 0x10, []) ∧
  decode true true [0xF0, 0xFE] = .ok (.beq 0xFE, []) ∧
  decode true true [0xDC, 0x00, 0x90] = .ok (.jmlIlabs 0x9000, []) ∧
  decode true true [0x62, 0xFD, 0xFF] = .ok (.per 0xFFFD, []) ∧
  decode true true [0xC2, 0x30] = .ok (.rep 0x30, []) ∧
  decode true true [0x42, 0xEA] = .ok (.wdm 0xEA, [])

/-! ## The step -/

/-- R67, R94, R360, R362: when the bytes from `PBR:PC` on decode, under the flags as they are, to an instruction, the step
is that instruction executed in that state. The meaning of an instruction moves `PC` past it and adds its cycles; the step
adds nothing around it. -/
def Obligations.StepRunsTheDecodedInstruction : Prop :=
  ∀ (s : State) (i : Instr) (rest : List Byte),
    decode s.flagM s.flagX [s.readMem (addr s.pbr s.pc), s.readMem (addr s.pbr (s.pc + 1)),
      s.readMem (addr s.pbr (s.pc + 2)), s.readMem (addr s.pbr (s.pc + 3))] = .ok (i, rest) →
    step s = exec i s

/-- R16, R381: a step completes, or it fails with `UnimplementedInstruction` and the opcode byte; it fails exactly when the
opcode byte is 0xCB or 0xDB, the default of the parameter `UNIMPL` (R4, log entry 4). At any parameters a step that fetches a
byte of `UNIMPL` fails so; and the machine with parameters, at the defaults of R4, takes the same step and returns as its cycle
count what the step adds to `CYC`. -/
def Obligations.StepCompletesOrIsUnimplemented : Prop :=
  (∀ s : State,
    (s.readMem (addr s.pbr s.pc) ∉ [0xCB, 0xDB] → ∃ t, step s = .next t) ∧
    (s.readMem (addr s.pbr s.pc) ∈ [0xCB, 0xDB] →
      step s = .fault (.unimplementedInstruction (s.readMem (addr s.pbr s.pc)))) ∧
    ∀ t, step s = .next t →
      ∃ n : Int, stepWith .std s.atWidth = .next (t.atWidth, n) ∧ t.cyc = s.cyc + BitVec.ofInt 64 n) ∧
  ∀ (P : Parameters) (u : StateAt P.cycWidth), u.view.readMem (addr u.pbr u.pc) ∈ [0xCB, 0xDB] ++ P.unimplAlso →
    stepWith P u = .fault (.unimplementedInstruction (u.view.readMem (addr u.pbr u.pc)))

/-- R345, R346: WAI and STP raise `UnimplementedInstruction` with their opcode byte, in every state. A fault holds no
state: nothing is changed. Neither byte may be removed from `UNIMPL`: a step at any parameters, whatever `OPTABLE` binds to the
byte, fails so. -/
def Obligations.WaiAndStpFail : Prop :=
  (∀ s : State,
    encode .wai = [0xCB] ∧ exec .wai s = .fault (.unimplementedInstruction 0xCB) ∧
    encode .stp = [0xDB] ∧ exec .stp s = .fault (.unimplementedInstruction 0xDB)) ∧
  ∀ (P : Parameters) (u : StateAt P.cycWidth) (op : Byte), op ∈ [0xCB, 0xDB] → u.view.readMem (addr u.pbr u.pc) = op →
    stepWith P u = .fault (.unimplementedInstruction op)

/-- R364, R365, R368, R428: every instruction but WAI and STP completes from every state, and adds to `CYC` the base count of
its opcode (the column "cyc" of R425) and what each of its penalty classes (the column "pen") adds in that state. Other
parameters of timing (`BASE_CYCLES`, `PagePenalty` of R4) change the count alone. At any parameters, `CYC_WIDTH` among them, a
completed step leaves in `CYC` the old total and the count it returns, modulo `2^CYC_WIDTH`. -/
def Obligations.CycleCountByPenaltyClass : Prop :=
  (∀ (i : Instr) (s : State), i.mnemonic ∉ [.wai, .stp] →
    ∃ t, exec i s = .next t ∧ t.cyc = s.cyc + BitVec.ofInt 64 (cycles i s) ∧
      ∀ base penalty,
        ∃ n, execEntry { Parameters.std with baseCycles := base, pagePenalty := penalty } i.opcode i.mnemonic i.operand s =
          .next ({ t with cyc := s.cyc }, n)) ∧
  ∀ (P : Parameters) (s t : StateAt P.cycWidth) (n : Int), stepWith P s = .next (t, n) →
    (t.cyc.toNat : Int) = (s.cyc.toNat + n) % 2 ^ P.cycWidth

/-- R364 (an inference the spec marks as its own): an instruction that completes costs at least 2 cycles. The upper bound of
9 is the model's own inference from the counts of R425 and the classes of R365. -/
def Obligations.EveryInstructionCostsTwoToNineCycles : Prop :=
  ∀ (i : Instr) (s t : State), exec i s = .next t →
    ∃ n : Nat, 2 ≤ n ∧ n ≤ 9 ∧ t.cyc = s.cyc + BitVec.ofNat 64 n

/-! ## Reset and the invariants -/

/-- R48, R24, R25, R32: the state after reset with nothing placed in memory: what the spec states for it. The state it leaves
open (`C`, the low bytes of `X`, `Y`, `S`, the flags n, v, z, c, the bytes of memory) has values this model chose (log
entries 1 and 2) and is not mentioned. -/
def Obligations.ResetStateHasTheStatedValues : Prop :=
  State.reset.e = true ∧ State.reset.flagM = true ∧ State.reset.flagX = true ∧ State.reset.flagI = true ∧
  State.reset.flagD = false ∧ hi State.reset.x = 0x00 ∧ hi State.reset.y = 0x00 ∧ hi State.reset.sp = 0x01 ∧
  State.reset.d = 0x0000 ∧ State.reset.dbr = 0x00 ∧ State.reset.pbr = 0x00 ∧ State.reset.cyc = 0 ∧
  State.reset.pc = word (State.reset.readMem 0x00FFFC) (State.reset.readMem 0x00FFFD) ∧ Inv State.reset

/-- R24, R25, R32 and the canonical form of memory: a step from any state that meets the invariants, not only from one that
a run reaches, ends in a state that meets them. -/
def Obligations.StepKeepsInvariants : Prop :=
  ∀ s t : State, Inv s → step s = .next t → Inv t

/-- R410: what `reset` does to any state: the listed registers and flags, the vector, `CYC`; everything else, all of memory
included, keeps its value. The parameter `VEC_RESET` (R4) changes the address of the vector, in bank 0x00, and nothing
else. -/
def Obligations.HostResetSetsTheListedState : Prop :=
  ∀ s : State, hostReset s =
    { s with
      e := true
      p := (s.p ||| 0x34) &&& 0xF7
      sp := word (lo s.sp) 0x01
      x := word (lo s.x) 0x00
      y := word (lo s.y) 0x00
      d := 0x0000
      dbr := 0x00
      pbr := 0x00
      pc := word (s.readMem 0x00FFFC) (s.readMem 0x00FFFD)
      cyc := 0 } ∧
    ∀ P : Parameters, hostReset s P =
      { hostReset s with
        pc := word (s.readMem (addr 0x00 (offOf P.vecReset))) (s.readMem (addr 0x00 (offOf P.vecReset + 1))) }

/-- R413, R24, R25, R32: every launch state that the type `Launch` holds meets the invariants, and it holds every state that
meets them; and from any state whatever, populated by any memory, every state that steps reach after the host's `reset`
meets them. -/
def Obligations.RunsFromHostResetKeepInvariants : Prop :=
  (∀ l : Launch, Inv l.state) ∧
  (∀ s : State, Inv s → ∃ l : Launch, l.state = s) ∧
  ∀ (s t : State) (n : Nat), s.mem.wf = true → Sys2Proof.core.run n (hostReset s) = .next t → Inv t

/-- R411: a 32 KiB image loaded from 0x008000 on, whose bytes 0x7FFC and 0x7FFD hold a vector: `reset` leaves `PC` at that
vector and the image in memory byte for byte. -/
def Obligations.LoadedImageGivesResetVector : Prop :=
  ∀ (s : State) (image : List Byte) (low high : Byte), image.length = 0x8000 → image[0x7FFC]? = some low →
    image[0x7FFD]? = some high →
    (hostReset (hostLoad s 0x008000 image)).pc = word low high ∧
    ∀ k, k < 0x8000 →
      (hostReset (hostLoad s 0x008000 image)).readMem (BitVec.ofNat 24 (0x8000 + k)) = image.getD k 0x00

/-- R44, R73, R76: a byte of memory reads as the last value written to it, for every address; a write changes no other
byte and no register. -/
def Obligations.MemoryReturnsTheLastWrite : Prop :=
  ∀ (s : State) (a b : Addr) (v : Byte),
    hostRead (hostWrite s a v) b = (if b = a then v else hostRead s b) ∧
    hostWrite s a v = { s with mem := (hostWrite s a v).mem } ∧
    (s.mem.wf = true → (hostWrite s a v).mem.wf = true)

/-! ## Addressing modes -/

/-- R66, R129, R130, R131: the location of the modes `dp`, `dpx`, `dpy`, in bank 0x00, with the wrap inside the page in
emulation mode when `DL` is 0, and the direct-page cycle; at other parameters the wrap follows `DP_E_WRAP` (R4). -/
def Obligations.DirectPageLocations : Prop :=
  ∀ (op : Mnemonic) (dd : Byte) (s : State),
    ∀ row ∈ [(Operand.dp dd, dd.toNat), (.dpx dd, dd.toNat + s.x.toNat), (.dpy dd, dd.toNat + s.y.toNat)],
      modeLoc op row.1 s = some ⟨2, .memBank 0x00 (BitVec.ofNat 16 (dpOff s row.2)), dlCycle s⟩ ∧
      ∀ P : Parameters, modeLoc op row.1 s P =
        some ⟨2, .memBank 0x00 (BitVec.ofNat 16 (if P.dpEWrap then dpOff s row.2 else (s.d.toNat + row.2) % 0x10000)),
          dlCycle s⟩

/-- R82, R132 to R136: the locations of the indirect direct-page modes: the pointer is read in bank 0x00; `(d)`, `(d,X)`
and `(d),Y` stay in the data bank, `[d]` and `[d],Y` are linear in 24 bits. -/
def Obligations.DirectPageIndirectLocations : Prop :=
  ∀ (op : Mnemonic) (dd : Byte) (s : State),
    modeLoc op (.idp dd) s = some ⟨2, .memBank s.dbr (BitVec.ofNat 16 (dpPtr s dd.toNat)), dlCycle s⟩ ∧
    modeLoc op (.idpx dd) s =
      some ⟨2, .memBank s.dbr (BitVec.ofNat 16 (dpPtr s (dd.toNat + s.x.toNat))), dlCycle s⟩ ∧
    modeLoc op (.idpy dd) s =
      some ⟨2, .memBank s.dbr (BitVec.ofNat 16 ((dpPtr s dd.toNat + s.y.toNat) % 0x10000)),
        dlCycle s + if op ∈ [.ora, .and, .eor, .adc, .lda, .cmp, .sbc, .bit, .ldx, .ldy] ∧
          indexCrosses (.idpy dd) s = true then 1 else 0⟩ ∧
    modeLoc op (.ildp dd) s = some ⟨2, .memLong (BitVec.ofNat 24 (dpPtrLong s dd.toNat)), dlCycle s⟩ ∧
    modeLoc op (.ildpy dd) s =
      some ⟨2, .memLong (BitVec.ofNat 24 ((dpPtrLong s dd.toNat + s.y.toNat) % 0x1000000)), dlCycle s⟩

/-- R61, R137 to R141: the locations of the absolute modes: `a`, `a,X`, `a,Y` wrap inside the data bank, `al` and `al,X` are
linear in 24 bits. Where the parameter `INDEX_CROSSES_BANK` (R4, R83) is true, `a`, `a,X` and `a,Y` are linear too. -/
def Obligations.AbsoluteLocations : Prop :=
  ∀ (op : Mnemonic) (aa : Word) (al : Addr) (s : State),
    modeLoc op (.abs aa) s = some ⟨3, .memBank s.dbr aa, 0⟩ ∧
    (∀ row ∈ [(Operand.absx aa, s.x.toNat), (.absy aa, s.y.toNat)],
      modeLoc op row.1 s =
        some ⟨3, .memBank s.dbr (BitVec.ofNat 16 ((aa.toNat + row.2) % 0x10000)),
          if op ∈ [.ora, .and, .eor, .adc, .lda, .cmp, .sbc, .bit, .ldx, .ldy] ∧ indexCrosses row.1 s = true
          then 1 else 0⟩) ∧
    modeLoc op (.long al) s = some ⟨4, .memLong al, 0⟩ ∧
    modeLoc op (.longx al) s = some ⟨4, .memLong (BitVec.ofNat 24 ((al.toNat + s.x.toNat) % 0x1000000)), 0⟩ ∧
    ∀ P : Parameters, ∀ row ∈ [(Operand.abs aa, 0), (.absx aa, s.x.toNat), (.absy aa, s.y.toNat)],
      (modeLoc op row.1 s P).map Formed.operand =
        some (if P.indexCrossesBank
          then .memLong (BitVec.ofNat 24 (0x10000 * s.dbr.toNat + aa.toNat + row.2))
          else .memBank s.dbr (BitVec.ofNat 16 (aa.toNat + row.2)))

/-- R142, R143: the stack-relative locations: an unsigned offset from `S` in bank 0x00, not confined to page 0x01; the
indirect mode reads a pointer there and adds `Y` inside the data bank. -/
def Obligations.StackRelativeLocations : Prop :=
  ∀ (op : Mnemonic) (sr : Byte) (s : State),
    modeLoc op (.sr sr) s = some ⟨2, .memBank 0x00 (BitVec.ofNat 16 ((s.sp.toNat + sr.toNat) % 0x10000)), 0⟩ ∧
    modeLoc op (.isry sr) s =
      some ⟨2, .memBank s.dbr (BitVec.ofNat 16 ((byteAt s 0x00 ((s.sp.toNat + sr.toNat) % 0x10000) +
        0x100 * byteAt s 0x00 ((s.sp.toNat + sr.toNat + 1) % 0x10000) + s.y.toNat) % 0x10000)), 0⟩

/-! ## Arithmetic -/

/-- R161, R162, R12: ADC in each of its modes, binary and decimal: the accumulator at its width, n, v, z, c; nothing else but
`PC` and `CYC` changes. -/
def Obligations.AdcResult : Prop :=
  ∀ (i : Instr) (s : State),
    i.opcode ∈ [0x61, 0x63, 0x65, 0x67, 0x69, 0x6D, 0x6F, 0x71, 0x72, 0x73, 0x75, 0x77, 0x79, 0x7D, 0x7F] →
    ∃ f t, modeLoc i.mnemonic i.operand s = some f ∧ exec i s = .next t ∧
      t = { passed i s with c := t.c, p := t.p } ∧ Keeps 0x3C s t ∧
      (let a := acc s
       let b := value s f.operand s.flagM
       let k := top s.flagM
       let sum := a + b + s.flagC.toNat
       let dec := decAdd (digits s.flagM) a b s.flagC
       let r := if s.flagD then dec.1 else sum % size s.flagM
       let signBit := if s.flagD then dec.2.2.testBit 3 else r.testBit k
       t.c.toNat = putAcc s r ∧ SetsNZ t s.flagM r ∧
       t.flagC = (if s.flagD then dec.2.1 else decide (size s.flagM ≤ sum)) ∧
       t.flagV = (a.testBit k == b.testBit k && a.testBit k != signBit))

/-- R163, R164, R13: SBC in each of its modes: binary, the difference with the borrow; decimal, the digits of R164. -/
def Obligations.SbcResult : Prop :=
  ∀ (i : Instr) (s : State),
    i.opcode ∈ [0xE1, 0xE3, 0xE5, 0xE7, 0xE9, 0xED, 0xEF, 0xF1, 0xF2, 0xF3, 0xF5, 0xF7, 0xF9, 0xFD, 0xFF] →
    ∃ f t, modeLoc i.mnemonic i.operand s = some f ∧ exec i s = .next t ∧
      t = { passed i s with c := t.c, p := t.p } ∧ Keeps 0x3C s t ∧
      (let a := acc s
       let b := value s f.operand s.flagM
       let k := top s.flagM
       let borrow := 1 - s.flagC.toNat
       let dec := decSub (digits s.flagM) a b s.flagC
       let r := if s.flagD then dec.1 else (a + size s.flagM - b - borrow) % size s.flagM
       let signBit := if s.flagD then dec.2.2.testBit 3 else r.testBit k
       t.c.toNat = putAcc s r ∧ SetsNZ t s.flagM r ∧
       t.flagC = (if s.flagD then dec.2.1 else decide (b + borrow ≤ a)) ∧
       t.flagV = (a.testBit k != b.testBit k && a.testBit k != signBit))

/-- R12, R171: in binary mode the v flag that ADC and SBC leave says that the exact signed result does not fit the width. -/
def Obligations.OverflowIsSignedOverflow : Prop :=
  ∀ (i : Instr) (s : State), i.mnemonic ∈ [.adc, .sbc] → s.flagD = false →
    ∃ f t, modeLoc i.mnemonic i.operand s = some f ∧ exec i s = .next t ∧
      (let a := signed s.flagM (acc s)
       let b := signed s.flagM (value s f.operand s.flagM)
       let exact : Int := if i.mnemonic = .adc then a + b + s.flagC.toNat else a - b - (1 - s.flagC.toNat)
       t.flagV = decide (exact < -(size s.flagM / 2) ∨ (size s.flagM / 2 : Int) ≤ exact))

/-- R162, R164: on valid BCD operands decimal ADC and SBC compute the decimal sum and difference modulo 10 to the number of
digits, as valid BCD, and c says decimal carry and no decimal borrow. -/
def Obligations.DecimalResultOfValidDigits : Prop :=
  ∀ (i : Instr) (s : State) (f : Formed Loc), i.mnemonic ∈ [.adc, .sbc] → s.flagD = true →
    modeLoc i.mnemonic i.operand s = some f → validBcd (digits s.flagM) (acc s) = true →
    validBcd (digits s.flagM) (value s f.operand s.flagM) = true →
    ∃ t, exec i s = .next t ∧ validBcd (digits s.flagM) (t.c.toNat % size s.flagM) = true ∧
      (let n := digits s.flagM
       let a := decimal n (acc s)
       let b := decimal n (value s f.operand s.flagM)
       let r := decimal n (t.c.toNat % size s.flagM)
       if i.mnemonic = .adc then
         r = (a + b + s.flagC.toNat) % 10 ^ n ∧ t.flagC = decide (10 ^ n ≤ a + b + s.flagC.toNat)
       else
         r = (a + 10 ^ n - b - (1 - s.flagC.toNat)) % 10 ^ n ∧ t.flagC = decide (b + (1 - s.flagC.toNat) ≤ a))

/-- R165, R166: INC and DEC of memory: the location is read and written at the accumulator's width; n and z; no other byte
of memory, no other flag and no register changes. -/
def Obligations.IncDecMemory : Prop :=
  ∀ (i : Instr) (s : State), i.opcode ∈ [0xE6, 0xEE, 0xF6, 0xFE, 0xC6, 0xCE, 0xD6, 0xDE] →
    ∃ f t, modeLoc i.mnemonic i.operand s = some f ∧ exec i s = .next t ∧
      t = { passed i s with mem := t.mem, p := t.p } ∧ Keeps 0x7D s t ∧
      OnlyStores (bytesOf f.operand s.flagM) s t ∧
      (let r := rmwValue i.mnemonic s.flagM (value s f.operand s.flagM) (acc s) s.flagC.toNat
       value t f.operand s.flagM = r ∧ SetsNZ t s.flagM r)

/-- R185 to R188: ASL, LSR, ROL, ROR of memory: the shifted value is stored, c is the bit shifted out, n and z are those of
the result. -/
def Obligations.ShiftsOfMemory : Prop :=
  ∀ (i : Instr) (s : State), i.opcode ∈ [0x06, 0x0E, 0x16, 0x1E, 0x46, 0x4E, 0x56, 0x5E, 0x26, 0x2E, 0x36, 0x3E, 0x66,
      0x6E, 0x76, 0x7E] →
    ∃ f t, modeLoc i.mnemonic i.operand s = some f ∧ exec i s = .next t ∧
      t = { passed i s with mem := t.mem, p := t.p } ∧ Keeps 0x7C s t ∧
      OnlyStores (bytesOf f.operand s.flagM) s t ∧
      (let v := value s f.operand s.flagM
       let r := rmwValue i.mnemonic s.flagM v (acc s) s.flagC.toNat
       value t f.operand s.flagM = r ∧ SetsNZ t s.flagM r ∧ t.flagC = shiftedOut i.mnemonic s.flagM v)

/-- R189, R190: TSB and TRB: the bits of the accumulator are set or cleared in the location; z is from the accumulator and
the value before the write, and no other flag changes. -/
def Obligations.TestAndSetBits : Prop :=
  ∀ (i : Instr) (s : State), i.opcode ∈ [0x04, 0x0C, 0x14, 0x1C] →
    ∃ f t, modeLoc i.mnemonic i.operand s = some f ∧ exec i s = .next t ∧
      t = { passed i s with mem := t.mem, p := t.p } ∧ Keeps 0xFD s t ∧
      OnlyStores (bytesOf f.operand s.flagM) s t ∧
      (let v := value s f.operand s.flagM
       value t f.operand s.flagM = rmwValue i.mnemonic s.flagM v (acc s) s.flagC.toNat ∧
       t.flagZ = decide (acc s &&& v = 0))

/-- R125, R165, R166, R185 to R188, R191: INC, DEC and the shifts of the accumulator: its width's half only, n, z, and c for
the shifts; memory is not touched, and the count is 2 at either width. -/
def Obligations.ReadModifyWriteOfAccumulator : Prop :=
  ∀ s : State, ∀ row ∈ [((0x0A : Byte), Instr.aslAcc), (0x4A, .lsrAcc), (0x2A, .rolAcc), (0x6A, .rorAcc), (0x1A, .incAcc),
      (0x3A, .decAcc)],
    encode row.2 = [row.1] ∧
    ∃ t, exec row.2 s = .next t ∧
      t = { s with c := t.c, p := t.p, pc := s.pc + 1, cyc := s.cyc + 2 } ∧ Keeps 0x7C s t ∧
      (let r := rmwValue row.2.mnemonic s.flagM (acc s) (acc s) s.flagC.toNat
       t.c.toNat = putAcc s r ∧ SetsNZ t s.flagM r ∧
       t.flagC = if row.2.mnemonic ∈ [.inc, .dec] then s.flagC else shiftedOut row.2.mnemonic s.flagM (acc s))

/-- R167 to R170: INX, INY, DEX, DEY step the register at the index width and set n and z; nothing else changes. -/
def Obligations.IndexSteps : Prop :=
  ∀ s : State,
    (∀ row ∈ [((0xE8 : Byte), Instr.inx, (1 : Nat)), (0xCA, .dex, size s.flagX - 1)],
      encode row.2.1 = [row.1] ∧
      ∃ t, exec row.2.1 s = .next t ∧ t = { s with x := t.x, p := t.p, pc := s.pc + 1, cyc := s.cyc + 2 } ∧
        Keeps 0x7D s t ∧ t.x.toNat = (s.x.toNat + row.2.2) % size s.flagX ∧ SetsNZ t s.flagX t.x.toNat) ∧
    (∀ row ∈ [((0xC8 : Byte), Instr.iny, (1 : Nat)), (0x88, .dey, size s.flagX - 1)],
      encode row.2.1 = [row.1] ∧
      ∃ t, exec row.2.1 s = .next t ∧ t = { s with y := t.y, p := t.p, pc := s.pc + 1, cyc := s.cyc + 2 } ∧
        Keeps 0x7D s t ∧ t.y.toNat = (s.y.toNat + row.2.2) % size s.flagX ∧ SetsNZ t s.flagX t.y.toNat)

/-! ## Logic, bit test, compare -/

/-- R181, R182, R183: AND, ORA, EOR in each of their modes: the accumulator at its width, n and z; nothing else changes. -/
def Obligations.LogicalResult : Prop :=
  ∀ (i : Instr) (s : State), i.mnemonic ∈ [.and, .ora, .eor] →
    ∃ f t, modeLoc i.mnemonic i.operand s = some f ∧ exec i s = .next t ∧
      t = { passed i s with c := t.c, p := t.p } ∧ Keeps 0x7D s t ∧
      (let a := acc s
       let b := value s f.operand s.flagM
       let r := if i.mnemonic = .and then a &&& b else if i.mnemonic = .ora then a ||| b else a ^^^ b
       t.c.toNat = putAcc s r ∧ SetsNZ t s.flagM r)

/-- R184: BIT: z from the accumulator and the operand; n and v from the operand's two top bits in the memory forms, unchanged
in the immediate form; nothing else changes. -/
def Obligations.BitTest : Prop :=
  ∀ (i : Instr) (s : State), i.opcode ∈ [0x24, 0x2C, 0x34, 0x3C, 0x89] →
    ∃ f t, modeLoc i.mnemonic i.operand s = some f ∧ exec i s = .next t ∧ t = { passed i s with p := t.p } ∧
      Keeps 0x3D s t ∧
      (let b := value s f.operand s.flagM
       t.flagZ = decide (acc s &&& b = 0) ∧
       t.flagN = (if i.opcode = 0x89 then s.flagN else b.testBit (top s.flagM)) ∧
       t.flagV = (if i.opcode = 0x89 then s.flagV else b.testBit (top s.flagM - 1)))

/-- R200 to R203: CMP, CPX, CPY: carry is register ≥ operand, zero is equality, negative the sign of the wrapped difference;
no register changes, whatever d and c are. -/
def Obligations.CompareFlags : Prop :=
  ∀ (i : Instr) (s : State), i.mnemonic ∈ [.cmp, .cpx, .cpy] →
    ∃ f t, modeLoc i.mnemonic i.operand s = some f ∧ exec i s = .next t ∧ t = { passed i s with p := t.p } ∧
      Keeps 0x7C s t ∧
      (let w := if i.mnemonic = .cmp then s.flagM else s.flagX
       let reg := (if i.mnemonic = .cmp then s.c else if i.mnemonic = .cpx then s.x else s.y).toNat % size w
       let b := value s f.operand w
       t.flagC = decide (b ≤ reg) ∧ t.flagZ = decide (reg = b) ∧
       t.flagN = ((reg + size w - b) % size w).testBit (top w))

/-! ## Loads, stores, transfers -/

/-- R211, R212, R213: LDA, LDX, LDY in each of their modes: the operand at the width of the destination, n and z; an 8-bit
LDA keeps `B`, an 8-bit LDX or LDY clears the high byte. -/
def Obligations.Loads : Prop :=
  ∀ (i : Instr) (s : State), i.mnemonic ∈ [.lda, .ldx, .ldy] →
    ∃ f t, modeLoc i.mnemonic i.operand s = some f ∧ exec i s = .next t ∧ Keeps 0x7D s t ∧
      (let w := if i.mnemonic = .lda then s.flagM else s.flagX
       let v := value s f.operand w
       SetsNZ t w v ∧
       (i.mnemonic = .lda → t = { passed i s with c := t.c, p := t.p } ∧ t.c.toNat = putAcc s v) ∧
       (i.mnemonic = .ldx → t = { passed i s with x := t.x, p := t.p } ∧ t.x.toNat = v) ∧
       (i.mnemonic = .ldy → t = { passed i s with y := t.y, p := t.p } ∧ t.y.toNat = v))

/-- R214 to R217: STA, STX, STY, STZ in each of their modes: the register (or zero) at its width is in the bytes of the
location, every other byte of memory is as it was, and no flag and no register changes. -/
def Obligations.Stores : Prop :=
  ∀ (i : Instr) (s : State), i.mnemonic ∈ [.sta, .stx, .sty, .stz] →
    ∃ f t, modeLoc i.mnemonic i.operand s = some f ∧ exec i s = .next t ∧ t = { passed i s with mem := t.mem } ∧
      (let w := if i.mnemonic ∈ [.sta, .stz] then s.flagM else s.flagX
       let reg := if i.mnemonic = .sta then s.c else if i.mnemonic = .stx then s.x
         else if i.mnemonic = .sty then s.y else 0
       value t f.operand w = reg.toNat % size w ∧ bytesOf f.operand w ≠ [] ∧
       OnlyStores (bytesOf f.operand w) s t)

/-- R218 to R224: TAX, TAY, TXA, TYA, TXY, TYX, TSX: the width is the destination's; a wider source is truncated; n and z. -/
def Obligations.TransfersAtDestinationWidth : Prop :=
  ∀ s : State,
    (∀ row ∈ [((0xAA : Byte), Instr.tax, s.c), (0xBB, .tyx, s.y), (0xBA, .tsx, s.sp)],
      encode row.2.1 = [row.1] ∧
      ∃ t, exec row.2.1 s = .next t ∧ t = { s with x := t.x, p := t.p, pc := s.pc + 1, cyc := s.cyc + 2 } ∧
        Keeps 0x7D s t ∧ t.x.toNat = row.2.2.toNat % size s.flagX ∧ SetsNZ t s.flagX t.x.toNat) ∧
    (∀ row ∈ [((0xA8 : Byte), Instr.tay, s.c), (0x9B, .txy, s.x)],
      encode row.2.1 = [row.1] ∧
      ∃ t, exec row.2.1 s = .next t ∧ t = { s with y := t.y, p := t.p, pc := s.pc + 1, cyc := s.cyc + 2 } ∧
        Keeps 0x7D s t ∧ t.y.toNat = row.2.2.toNat % size s.flagX ∧ SetsNZ t s.flagX t.y.toNat) ∧
    (∀ row ∈ [((0x8A : Byte), Instr.txa, s.x), (0x98, .tya, s.y)],
      encode row.2.1 = [row.1] ∧
      ∃ t, exec row.2.1 s = .next t ∧ t = { s with c := t.c, p := t.p, pc := s.pc + 1, cyc := s.cyc + 2 } ∧
        Keeps 0x7D s t ∧ t.c.toNat = putAcc s (row.2.2.toNat % size s.flagM) ∧
        SetsNZ t s.flagM (row.2.2.toNat % size s.flagM))

/-- R226, R227, R229, R230: TCD, TDC, TSC move all 16 bits whatever m is, with n and z from the 16-bit value; XBA exchanges
the halves of `C`, with n and z from the new low byte. -/
def Obligations.FullWidthTransfers : Prop :=
  ∀ s : State,
    encode .tcd = [0x5B] ∧ encode .tdc = [0x7B] ∧ encode .tsc = [0x3B] ∧ encode .xba = [0xEB] ∧
    (∃ t, exec .tcd s = .next t ∧ t = { s with d := s.c, p := t.p, pc := s.pc + 1, cyc := s.cyc + 2 } ∧
      Keeps 0x7D s t ∧ SetsNZ t false s.c.toNat) ∧
    (∃ t, exec .tdc s = .next t ∧ t = { s with c := s.d, p := t.p, pc := s.pc + 1, cyc := s.cyc + 2 } ∧
      Keeps 0x7D s t ∧ SetsNZ t false s.d.toNat) ∧
    (∃ t, exec .tsc s = .next t ∧ t = { s with c := s.sp, p := t.p, pc := s.pc + 1, cyc := s.cyc + 2 } ∧
      Keeps 0x7D s t ∧ SetsNZ t false s.sp.toNat) ∧
    (∃ t, exec .xba s = .next t ∧
      t = { s with c := word (hi s.c) (lo s.c), p := t.p, pc := s.pc + 1, cyc := s.cyc + 3 } ∧
      Keeps 0x7D s t ∧ SetsNZ t true (hi s.c).toNat)

/-- R34, R225, R228: TXS and TCS copy all 16 bits to `S` in native mode; in emulation mode the high byte of `S` is 0x01 and
only the low byte arrives; no flag changes. -/
def Obligations.TransfersToStackPointer : Prop :=
  ∀ s : State, ∀ row ∈ [((0x9A : Byte), Instr.txs, s.x), (0x1B, .tcs, s.c)],
    encode row.2.1 = [row.1] ∧
    exec row.2.1 s = .next
      { s with sp := if s.e then word (lo row.2.2) 0x01 else row.2.2, pc := s.pc + 1, cyc := s.cyc + 2 }

/-! ## Control flow -/

/-- R251, R252, R146, R147, R148, R151: the five jumps: where each reads its target, which bank it runs in afterwards, its
cycles; nothing else changes. -/
def Obligations.Jumps : Prop :=
  ∀ (aa : Word) (al : Addr) (s : State),
    encode (.jmpPabs aa) = [0x4C, lo aa, hi aa] ∧
    exec (.jmpPabs aa) s = .next { s with pc := aa, cyc := s.cyc + 3 } ∧
    encode (.jmpIabs aa) = [0x6C, lo aa, hi aa] ∧
    exec (.jmpIabs aa) s = .next
      { s with pc := word (s.readMem (addr 0x00 aa)) (s.readMem (addr 0x00 (aa + 1))), cyc := s.cyc + 5 } ∧
    encode (.jmpIabsx aa) = [0x7C, lo aa, hi aa] ∧
    exec (.jmpIabsx aa) s = .next
      { s with
        pc := word (s.readMem (addr s.pbr (aa + s.x))) (s.readMem (addr s.pbr (aa + s.x + 1)))
        cyc := s.cyc + 6 } ∧
    encode (.jmlPlong al) = [0x5C, lo (offOf al), hi (offOf al), bankOf al] ∧
    exec (.jmlPlong al) s = .next { s with pbr := bankOf al, pc := offOf al, cyc := s.cyc + 4 } ∧
    encode (.jmlIlabs aa) = [0xDC, lo aa, hi aa] ∧
    exec (.jmlIlabs aa) s = .next
      { s with
        pbr := s.readMem (addr 0x00 (aa + 2))
        pc := word (s.readMem (addr 0x00 aa)) (s.readMem (addr 0x00 (aa + 1)))
        cyc := s.cyc + 6 }

/-- R253, R254, R147: JSR and JSL push the offset of their own last byte (JSL the bank before it), high byte first, and go to
the target, which was read before the push. -/
def Obligations.CallsPushTheReturnOffset : Prop :=
  ∀ (aa : Word) (al : Addr) (s : State),
    encode (.jsrPabs aa) = [0x20, lo aa, hi aa] ∧ encode (.jsrIabsx aa) = [0xFC, lo aa, hi aa] ∧
    encode (.jsl al) = [0x22, lo (offOf al), hi (offOf al), bankOf al] ∧
    (∃ t, exec (.jsrPabs aa) s = .next t ∧
      t = { s with sp := t.sp, mem := t.mem, pc := aa, cyc := s.cyc + 6 } ∧
      Pushes [hi (s.pc + 2), lo (s.pc + 2)] s t) ∧
    (∃ t, exec (.jsrIabsx aa) s = .next t ∧
      t = { s with
        sp := t.sp
        mem := t.mem
        pc := word (s.readMem (addr s.pbr (aa + s.x))) (s.readMem (addr s.pbr (aa + s.x + 1)))
        cyc := s.cyc + 8 } ∧
      Pushes [hi (s.pc + 2), lo (s.pc + 2)] s t) ∧
    (∃ t, exec (.jsl al) s = .next t ∧
      t = { s with sp := t.sp, mem := t.mem, pbr := bankOf al, pc := offOf al, cyc := s.cyc + 8 } ∧
      Pushes [s.pbr, hi (s.pc + 3), lo (s.pc + 3)] s t)

/-- R255, R256: RTS pulls two bytes, RTL three; `PC` is the pulled offset plus 1, without a carry into the bank; no flag
changes. -/
def Obligations.ReturnsFromSubroutine : Prop :=
  ∀ s : State,
    encode .rts = [0x60] ∧
    exec .rts s = .next
      { s with sp := spUp s.e 2 s.sp, pc := word (pulled s 0) (pulled s 1) + 1, cyc := s.cyc + 6 } ∧
    encode .rtl = [0x6B] ∧
    exec .rtl s = .next
      { s with
        sp := spUp s.e 3 s.sp
        pc := word (pulled s 0) (pulled s 1) + 1
        pbr := pulled s 2
        cyc := s.cyc + 6 }

/-- R253 to R256, R271: the return right after the call resumes after the call, with the stack pointer and the bank
restored: RTS after JSR, RTL after JSL. Invariant IS (R25) is a premise: in emulation mode a stack pointer outside page
0x01, which no run reaches, would not come back. -/
def Obligations.ReturnUndoesTheCall : Prop :=
  ∀ (i : Instr) (s : State), InvIS s → i.mnemonic ∈ [.jsr, .jsl] →
    ∃ t u, exec i s = .next t ∧ exec (if i.mnemonic = .jsr then .rts else .rtl) t = .next u ∧
      u = { s with pc := s.pc + BitVec.ofNat 16 i.length, mem := t.mem, cyc := u.cyc }

/-- R144, R258 to R267: BRA and the eight conditional branches: the target when taken, the next instruction when not; 2
cycles, 3 when taken, 4 when taken across a page in emulation mode; nothing else changes. -/
def Obligations.Branches : Prop :=
  ∀ (disp : Byte) (s : State),
    ∀ row ∈ [((0x80 : Byte), Instr.bra disp, true), (0x90, .bcc disp, !s.flagC), (0xB0, .bcs disp, s.flagC),
      (0xF0, .beq disp, s.flagZ), (0xD0, .bne disp, !s.flagZ), (0x30, .bmi disp, s.flagN), (0x10, .bpl disp, !s.flagN),
      (0x50, .bvc disp, !s.flagV), (0x70, .bvs disp, s.flagV)],
      encode row.2.1 = [row.1, disp] ∧
      exec row.2.1 s = .next
        { s with
          pc := if row.2.2 then BitVec.ofNat 16 (branchTarget s disp) else s.pc + 2
          cyc := s.cyc + BitVec.ofInt 64 (if row.2.2 then 2 + takenCycles s disp else 2) }

/-- R268, R145: BRL goes to the 16-bit displacement from the next instruction, inside the bank, in 4 cycles in either mode. -/
def Obligations.BranchLong : Prop :=
  ∀ (disp : Word) (s : State),
    encode (.brl disp) = [0x82, lo disp, hi disp] ∧
    exec (.brl disp) s = .next
      { s with pc := BitVec.ofNat 16 ((s.pc.toNat + 3 + disp.toNat) % 0x10000), cyc := s.cyc + 4 }

/-! ## Software interrupts -/

/-- R269, R270, R387: BRK and COP push the bank in native mode, the offset after the signature byte and `P` as it was; set i,
clear d, run in bank 0x00 from the vector of the mode, in 7 cycles or 8 in native mode (the vector is read after the pushes,
as R269 lists them: log entry 7); `E` and every other register keep their values. At other parameters `VEC_BRK_N` to
`VEC_COP_E` (R4) the entry reads its vector there. -/
def Obligations.SoftwareInterruptEntry : Prop :=
  ∀ (sig : Byte) (s : State),
    (∀ row ∈ [((0x00 : Byte), Instr.brk sig, (0x00FFE6 : Addr), (0x00FFFE : Addr)), (0x02, .cop sig, 0x00FFE4, 0x00FFF4)],
      encode row.2.1 = [row.1, sig] ∧
      ∃ t, exec row.2.1 s = .next t ∧
        (let vec := if s.e then row.2.2.2 else row.2.2.1
         t = { s with
           sp := t.sp
           mem := t.mem
           p := t.p
           pbr := 0x00
           pc := word (t.readMem vec) (t.readMem (vec + 1))
           cyc := s.cyc + if s.e then 7 else 8 }) ∧
        Pushes ((if s.e then [] else [s.pbr]) ++ [hi (s.pc + 2), lo (s.pc + 2), s.p]) s t ∧
        t.flagI = true ∧ t.flagD = false ∧ Keeps 0xF3 s t) ∧
    ∀ P : Parameters,
      ∀ row ∈ [((0x00 : Byte), Mnemonic.brk, P.vecBrkN, P.vecBrkE), (0x02, .cop, P.vecCopN, P.vecCopE)],
        ∃ t n, execEntry P row.1 row.2.1 (.sig sig) s = .next (t, n) ∧ t.pbr = 0x00 ∧
          (let off := offOf (if s.e then row.2.2.2 else row.2.2.1)
           t.pc = word (t.readMem (addr 0x00 off)) (t.readMem (addr 0x00 (off + 1))))

/-- R257, R389, R33: RTI pulls `P`, then `PC` low and high, then in native mode `PBR`; in emulation mode m and x stay 1; where x
is 1 the high bytes of `X` and `Y` are cleared; 6 cycles, 7 in native mode. -/
def Obligations.ReturnFromInterrupt : Prop :=
  ∀ s : State,
    encode .rti = [0x40] ∧
    (let p := if s.e then pulled s 0 ||| 0x30 else pulled s 0
     exec .rti s = .next
      { s with
        p := p
        x := if p.getLsbD 4 then word (lo s.x) 0x00 else s.x
        y := if p.getLsbD 4 then word (lo s.y) 0x00 else s.y
        sp := spUp s.e (if s.e then 3 else 4) s.sp
        pc := word (pulled s 1) (pulled s 2)
        pbr := if s.e then s.pbr else pulled s 3
        cyc := s.cyc + if s.e then 6 else 7 })

/-- R257, R269, R270: RTI undoes exactly what BRK or COP pushed: run right after the entry it resumes after the signature byte
with `P`, `S`, `X`, `Y` as they were, and in native mode the bank. -/
def Obligations.RtiUndoesTheTrap : Prop :=
  ∀ (i : Instr) (s : State), Inv s → i.mnemonic ∈ [.brk, .cop] →
    ∃ t u, exec i s = .next t ∧ exec .rti t = .next u ∧
      u = { s with pc := s.pc + 2, pbr := if s.e then 0x00 else s.pbr, mem := t.mem, cyc := u.cyc }

/-! ## Stack -/

/-- R290 to R297: PHA, PHX, PHY push their register at its width, PHP, PHB, PHK one byte, PHD two, the high byte first; no
flag and no register but `S` changes. -/
def Obligations.PushesOfRegisters : Prop :=
  ∀ s : State,
    ∀ row ∈ [((0x48 : Byte), Instr.pha, if s.flagM then [lo s.c] else [hi s.c, lo s.c]),
      (0xDA, .phx, if s.flagX then [lo s.x] else [hi s.x, lo s.x]),
      (0x5A, .phy, if s.flagX then [lo s.y] else [hi s.y, lo s.y]),
      (0x08, .php, [s.p]), (0x8B, .phb, [s.dbr]), (0x0B, .phd, [hi s.d, lo s.d]), (0x4B, .phk, [s.pbr])],
      encode row.2.1 = [row.1] ∧
      ∃ t, exec row.2.1 s = .next t ∧ t = { passed row.2.1 s with sp := t.sp, mem := t.mem } ∧ Pushes row.2.2 s t

/-- R304, R305, R306: PEA pushes its operand, PEI the pointer at `D + dd` (never page-wrapped), PER the offset its displacement
reaches; no flag changes and nothing is jumped to. -/
def Obligations.PushesOfEffectiveAddresses : Prop :=
  ∀ (v : Word) (dd : Byte) (s : State),
    encode (.pea v) = [0xF4, lo v, hi v] ∧ encode (.pei dd) = [0xD4, dd] ∧ encode (.per v) = [0x62, lo v, hi v] ∧
    ∀ row ∈ [(Instr.pea v, v.toNat), (.pei dd, dpPtrN s dd.toNat), (.per v, (s.pc.toNat + 3 + v.toNat) % 0x10000)],
      ∃ t, exec row.1 s = .next t ∧ t = { passed row.1 s with sp := t.sp, mem := t.mem } ∧
        Pushes [BitVec.ofNat 8 (row.2 / 0x100), BitVec.ofNat 8 row.2] s t

/-- R298, R299, R300, R302, R303: PLA, PLX, PLY, PLB, PLD: the register takes the bytes pulled, low byte first, at its width; n
and z are those of the value; memory is not touched. -/
def Obligations.PullsIntoRegisters : Prop :=
  ∀ s : State,
    encode .pla = [0x68] ∧ encode .plx = [0xFA] ∧ encode .ply = [0x7A] ∧ encode .plb = [0xAB] ∧ encode .pld = [0x2B] ∧
    (let v (f : Bool) := (pulled s 0).toNat + if f then 0 else 0x100 * (pulled s 1).toNat
     (∃ t, exec .pla s = .next t ∧
       t = { passed .pla s with c := t.c, p := t.p, sp := spUp s.e (if s.flagM then 1 else 2) s.sp } ∧
       t.c.toNat = putAcc s (v s.flagM) ∧ SetsNZ t s.flagM (v s.flagM) ∧ Keeps 0x7D s t) ∧
     (∃ t, exec .plx s = .next t ∧
       t = { passed .plx s with x := t.x, p := t.p, sp := spUp s.e (if s.flagX then 1 else 2) s.sp } ∧
       t.x.toNat = v s.flagX ∧ SetsNZ t s.flagX (v s.flagX) ∧ Keeps 0x7D s t) ∧
     (∃ t, exec .ply s = .next t ∧
       t = { passed .ply s with y := t.y, p := t.p, sp := spUp s.e (if s.flagX then 1 else 2) s.sp } ∧
       t.y.toNat = v s.flagX ∧ SetsNZ t s.flagX (v s.flagX) ∧ Keeps 0x7D s t) ∧
     (∃ t, exec .plb s = .next t ∧
       t = { passed .plb s with dbr := pulled s 0, p := t.p, sp := spUp s.e 1 s.sp } ∧
       SetsNZ t true (v true) ∧ Keeps 0x7D s t) ∧
     (∃ t, exec .pld s = .next t ∧
       t = { passed .pld s with d := word (pulled s 0) (pulled s 1), p := t.p, sp := spUp s.e 2 s.sp } ∧
       SetsNZ t false (v false) ∧ Keeps 0x7D s t))

/-- R301, R33: PLP replaces all of `P` by the byte pulled; in emulation mode m and x stay 1; where x is 1 the high bytes of `X`
and `Y` are cleared; `E` is not reachable. -/
def Obligations.PullStatus : Prop :=
  ∀ s : State,
    encode .plp = [0x28] ∧
    (let p := if s.e then pulled s 0 ||| 0x30 else pulled s 0
     exec .plp s = .next
      { s with
        p := p
        x := if p.getLsbD 4 then word (lo s.x) 0x00 else s.x
        y := if p.getLsbD 4 then word (lo s.y) 0x00 else s.y
        sp := spUp s.e 1 s.sp
        pc := s.pc + 1
        cyc := s.cyc + 4 })

/-! ## Mode switch -/

/-- R320, R321, R33: REP clears and SEP sets the bits of the mask; in emulation mode m and x stay 1; where x is 1 afterwards the
high bytes of `X` and `Y` are 0; `C` and every other register keep their values. Invariant IS (R25) is a premise: the
same write of `P` would bring a stack pointer outside page 0x01, which no run reaches, into it. -/
def Obligations.RepAndSep : Prop :=
  ∀ (k : Byte) (s : State), InvIS s →
    ∀ row ∈ [((0xC2 : Byte), Instr.rep k, s.p &&& ~~~k), (0xE2, .sep k, s.p ||| k)],
      encode row.2.1 = [row.1, k] ∧
      (let p := if s.e then row.2.2 ||| 0x30 else row.2.2
       exec row.2.1 s = .next
        { s with
          p := p
          x := if p.getLsbD 4 then word (lo s.x) 0x00 else s.x
          y := if p.getLsbD 4 then word (lo s.y) 0x00 else s.y
          pc := s.pc + 2
          cyc := s.cyc + 3 })

/-- R322: XCE exchanges c and `E`; entering emulation mode forces m and x to 1 and clamps `X`, `Y` and `S`; leaving it, and an
exchange of equal bits, change nothing else. `C`, `D`, `DBR`, `PBR` and the other flags are kept in every case. -/
def Obligations.ExchangeCarryAndEmulation : Prop :=
  ∀ s : State, Inv s →
    encode .xce = [0xFB] ∧
    ∃ t, exec .xce s = .next t ∧ t.flagC = s.e ∧ t.e = s.flagC ∧ Keeps 0xCE s t ∧
      t = { s with
        e := t.e
        p := t.p
        x := if t.e then word (lo s.x) 0x00 else s.x
        y := if t.e then word (lo s.y) 0x00 else s.y
        sp := if t.e then word (lo s.sp) 0x01 else s.sp
        pc := s.pc + 1
        cyc := s.cyc + 2 } ∧
      (if t.e then t.flagM = true ∧ t.flagX = true else t.flagM = s.flagM ∧ t.flagX = s.flagX)

/-- R323 to R329: CLC, SEC, CLD, SED, CLI, SEI, CLV change exactly one flag and touch nothing else; 2 cycles. -/
def Obligations.SingleFlagInstructions : Prop :=
  ∀ s : State,
    ∀ row ∈ [((0x18 : Byte), Instr.clc, (0 : Nat), false), (0x38, .sec, 0, true), (0xD8, .cld, 3, false), (0xF8, .sed, 3, true),
      (0x58, .cli, 2, false), (0x78, .sei, 2, true), (0xB8, .clv, 6, false)],
      encode row.2.1 = [row.1] ∧
      ∃ t, exec row.2.1 s = .next t ∧ t = { s with p := t.p, pc := s.pc + 1, cyc := s.cyc + 2 } ∧
        ∀ j, j < 8 → t.p.getLsbD j = if j = row.2.2.1 then row.2.2.2 else s.p.getLsbD j

/-! ## Block move and the rest -/

/-- R340, R341, R342: one step of MVN or MVP moves one byte, steps `X` and `Y` at the index width, counts all 16 bits of `C`
down, leaves `DBR` at the destination bank, and holds `PC` unless the count was 0; 7 cycles, no flag changes. -/
def Obligations.BlockMoveStep : Prop :=
  ∀ (dst src : Byte) (s : State),
    ∀ row ∈ [((0x54 : Byte), Instr.mvn dst src, (1 : Nat)), (0x44, .mvp dst src, size s.flagX - 1)],
      encode row.2.1 = [row.1, dst, src] ∧
      ∃ t, exec row.2.1 s = .next t ∧
        t = { s with
          c := s.c - 1
          x := t.x
          y := t.y
          dbr := dst
          pc := if s.c = 0 then s.pc + 3 else s.pc
          mem := t.mem
          cyc := s.cyc + 7 } ∧
        t.x.toNat = (s.x.toNat + row.2.2) % size s.flagX ∧ t.y.toNat = (s.y.toNat + row.2.2) % size s.flagX ∧
        t.readMem (addr dst s.y) = s.readMem (addr src s.x) ∧ OnlyStores [addr dst s.y] s t

/-- R340: a whole block move: with `C` = N, executing MVN or MVP N + 1 times leaves `C` at 0xFFFF, `X` and `Y` moved by N + 1,
`DBR` at the destination bank, `PC` past the instruction, 7 × (N + 1) cycles charged; only the N + 1 destination bytes can
change; and when the banks differ they hold the source bytes. Invariant IX (R24) is a premise. -/
def Obligations.BlockMoveOfNPlusOneBytes : Prop :=
  ∀ (dst src : Byte) (s : State), InvIX s →
    ∀ row ∈ [(Instr.mvn dst src, (1 : Nat)), (.mvp dst src, size s.flagX - 1)],
      ∃ t, repeated row.1 (s.c.toNat + 1) s = some t ∧
        (let at' (r : Word) (k : Nat) : Word := BitVec.ofNat 16 ((r.toNat + k * row.2) % size s.flagX)
         t = { s with
           c := 0xFFFF
           x := at' s.x (s.c.toNat + 1)
           y := at' s.y (s.c.toNat + 1)
           dbr := dst
           pc := s.pc + 3
           mem := t.mem
           cyc := s.cyc + BitVec.ofNat 64 (7 * (s.c.toNat + 1)) } ∧
         (∀ a, (∀ k, k ≤ s.c.toNat → a ≠ addr dst (at' s.y k)) → t.readMem a = s.readMem a) ∧
         (dst ≠ src → ∀ k, k ≤ s.c.toNat → t.readMem (addr dst (at' s.y k)) = s.readMem (addr src (at' s.x k))))

/-- R343, R344: NOP changes nothing but `PC` (by 1) and `CYC` (by 2); WDM nothing but `PC` (by 2) and `CYC` (by 2), whatever its
second byte is (that WDM is a no-operation is the spec's decision D27). -/
def Obligations.NoOperations : Prop :=
  ∀ (sig : Byte) (s : State),
    encode .nop = [0xEA] ∧ exec .nop s = .next { s with pc := s.pc + 1, cyc := s.cyc + 2 } ∧
    encode (.wdm sig) = [0x42, sig] ∧ exec (.wdm sig) s = .next { s with pc := s.pc + 2, cyc := s.cyc + 2 }

/-! ## Whole-machine rules -/

/-- R26, R27, R28, R30, R31: which instructions can change `D`, `DBR`, `PBR`, `E`, the width flags, and the flags d and i. -/
def Obligations.WritersOfSystemRegisters : Prop :=
  ∀ (i : Instr) (s t : State), exec i s = .next t →
    (t.d ≠ s.d → i.mnemonic ∈ [.tcd, .pld]) ∧
    (t.dbr ≠ s.dbr → i.mnemonic ∈ [.plb, .mvn, .mvp]) ∧
    (t.pbr ≠ s.pbr → i.mnemonic ∈ [.jml, .jsl, .rtl, .rti, .brk, .cop] ∧ (i.mnemonic = .rti → s.e = false)) ∧
    (t.e ≠ s.e → i.mnemonic = .xce) ∧
    (t.flagM ≠ s.flagM ∨ t.flagX ≠ s.flagX → i.mnemonic ∈ [.plp, .rti, .rep, .sep, .xce]) ∧
    (t.flagD ≠ s.flagD → i.mnemonic ∈ [.sed, .cld, .brk, .cop, .plp, .rti, .rep, .sep]) ∧
    (t.flagI ≠ s.flagI → i.mnemonic ∈ [.sei, .cli, .brk, .cop, .plp, .rti, .rep, .sep])

/-- R21, R22: with an 8-bit accumulator the half `B` is frozen: only XBA, TDC, TSC and the block moves change it. -/
def Obligations.FrozenHalfOfTheAccumulator : Prop :=
  ∀ (i : Instr) (s t : State), s.flagM = true → exec i s = .next t →
    i.mnemonic ∉ [.xba, .tdc, .tsc, .mvn, .mvp] → hi t.c = hi s.c

/-- R30, R386: the i flag gates nothing: from two states that differ in it alone every instruction executes alike (WAI and
STP, which fail, apart), and the two next states differ in the i flag at most; after PHP, BRK and COP they differ in the
byte of `P` that was pushed as well, and so in `PC` only where that byte lies in the vector that BRK or COP reads after
the push (log entry 7). -/
def Obligations.InterruptFlagGatesNothing : Prop :=
  ∀ (i : Instr) (s : State) (b : Bool), i.mnemonic ∉ [.wai, .stp] →
    ∃ t t', exec i s = .next t ∧ exec i (s.setFlag maskI b) = .next t' ∧ Keeps 0xFB t t' ∧
      (i.mnemonic ∉ [.php, .brk, .cop] → t' = { t with p := t'.p }) ∧
      (i.mnemonic ∈ [.php, .brk, .cop] →
        (let pushedP := pushedAt s (if i.mnemonic = .php then 0 else if s.e then 2 else 3)
         let vec : Addr := if i.mnemonic = .brk then if s.e then 0x00FFFE else 0x00FFE6
           else if s.e then 0x00FFF4 else 0x00FFE4
         t' = { t with p := t'.p, mem := t'.mem, pc := t'.pc } ∧ OnlyStores [pushedP] t t' ∧
         (i.mnemonic = .php ∨ pushedP ∉ [vec, vec + 1] → t'.pc = t.pc)))

/-- R76, R78, R214 to R217: an instruction that is no store, no read-modify-write of memory, no push and no block move leaves
every byte of memory as it was. -/
def Obligations.OtherInstructionsKeepMemory : Prop :=
  ∀ (i : Instr) (s t : State), exec i s = .next t →
    i.mnemonic ∉ [.sta, .stx, .sty, .stz, .tsb, .trb, .pha, .phx, .phy, .php, .phb, .phd, .phk, .pea, .pei, .per, .jsr, .jsl,
      .brk, .cop, .mvn, .mvp] →
    (i.mnemonic ∈ [.asl, .lsr, .rol, .ror, .inc, .dec] → i.operand = .acc) →
    ∀ a, t.readMem a = s.readMem a

end Statements
end

