-- ==== Sys2Proof/Laws/State.lean ====
section
/-! SUPPORT. One lemma per field of `State` per update, true by `rfl`, so that no later proof unfolds a record update; then
the flags after each single-flag write. -/

namespace Sys2Proof.Machine

section Fields

variable (s : State)

/-! ### `writeMem` -/

@[simp] theorem State.writeMem_c (a : Addr) (v : Byte) : (s.writeMem a v).c = s.c := rfl
@[simp] theorem State.writeMem_x (a : Addr) (v : Byte) : (s.writeMem a v).x = s.x := rfl
@[simp] theorem State.writeMem_y (a : Addr) (v : Byte) : (s.writeMem a v).y = s.y := rfl
@[simp] theorem State.writeMem_sp (a : Addr) (v : Byte) : (s.writeMem a v).sp = s.sp := rfl
@[simp] theorem State.writeMem_d (a : Addr) (v : Byte) : (s.writeMem a v).d = s.d := rfl
@[simp] theorem State.writeMem_dbr (a : Addr) (v : Byte) : (s.writeMem a v).dbr = s.dbr := rfl
@[simp] theorem State.writeMem_pbr (a : Addr) (v : Byte) : (s.writeMem a v).pbr = s.pbr := rfl
@[simp] theorem State.writeMem_pc (a : Addr) (v : Byte) : (s.writeMem a v).pc = s.pc := rfl
@[simp] theorem State.writeMem_p (a : Addr) (v : Byte) : (s.writeMem a v).p = s.p := rfl
@[simp] theorem State.writeMem_e (a : Addr) (v : Byte) : (s.writeMem a v).e = s.e := rfl
@[simp] theorem State.writeMem_mem (a : Addr) (v : Byte) : (s.writeMem a v).mem = memWrite s.mem a.toNat v := rfl
@[simp] theorem State.writeMem_cyc (a : Addr) (v : Byte) : (s.writeMem a v).cyc = s.cyc := rfl

/-! ### `setFlag` -/

@[simp] theorem State.setFlag_c (k : Byte) (b : Bool) : (s.setFlag k b).c = s.c := rfl
@[simp] theorem State.setFlag_x (k : Byte) (b : Bool) : (s.setFlag k b).x = s.x := rfl
@[simp] theorem State.setFlag_y (k : Byte) (b : Bool) : (s.setFlag k b).y = s.y := rfl
@[simp] theorem State.setFlag_sp (k : Byte) (b : Bool) : (s.setFlag k b).sp = s.sp := rfl
@[simp] theorem State.setFlag_d (k : Byte) (b : Bool) : (s.setFlag k b).d = s.d := rfl
@[simp] theorem State.setFlag_dbr (k : Byte) (b : Bool) : (s.setFlag k b).dbr = s.dbr := rfl
@[simp] theorem State.setFlag_pbr (k : Byte) (b : Bool) : (s.setFlag k b).pbr = s.pbr := rfl
@[simp] theorem State.setFlag_pc (k : Byte) (b : Bool) : (s.setFlag k b).pc = s.pc := rfl
@[simp] theorem State.setFlag_p (k : Byte) (b : Bool) : (s.setFlag k b).p = putFlag s.p k b := rfl
@[simp] theorem State.setFlag_e (k : Byte) (b : Bool) : (s.setFlag k b).e = s.e := rfl
@[simp] theorem State.setFlag_mem (k : Byte) (b : Bool) : (s.setFlag k b).mem = s.mem := rfl
@[simp] theorem State.setFlag_cyc (k : Byte) (b : Bool) : (s.setFlag k b).cyc = s.cyc := rfl

/-! ### `setNZ` -/

@[simp] theorem State.setNZ_c (w : Width) (r : Word) : (s.setNZ w r).c = s.c := rfl
@[simp] theorem State.setNZ_x (w : Width) (r : Word) : (s.setNZ w r).x = s.x := rfl
@[simp] theorem State.setNZ_y (w : Width) (r : Word) : (s.setNZ w r).y = s.y := rfl
@[simp] theorem State.setNZ_sp (w : Width) (r : Word) : (s.setNZ w r).sp = s.sp := rfl
@[simp] theorem State.setNZ_d (w : Width) (r : Word) : (s.setNZ w r).d = s.d := rfl
@[simp] theorem State.setNZ_dbr (w : Width) (r : Word) : (s.setNZ w r).dbr = s.dbr := rfl
@[simp] theorem State.setNZ_pbr (w : Width) (r : Word) : (s.setNZ w r).pbr = s.pbr := rfl
@[simp] theorem State.setNZ_pc (w : Width) (r : Word) : (s.setNZ w r).pc = s.pc := rfl
@[simp] theorem State.setNZ_p (w : Width) (r : Word) :
    (s.setNZ w r).p = putFlag (putFlag s.p maskN (msbOf w r)) maskZ (decide (truncTo w r = 0)) := rfl
@[simp] theorem State.setNZ_e (w : Width) (r : Word) : (s.setNZ w r).e = s.e := rfl
@[simp] theorem State.setNZ_mem (w : Width) (r : Word) : (s.setNZ w r).mem = s.mem := rfl
@[simp] theorem State.setNZ_cyc (w : Width) (r : Word) : (s.setNZ w r).cyc = s.cyc := rfl

/-! ### `setNVZC` -/

@[simp] theorem State.setNVZC_c (w : Width) (r : AluResult) : (s.setNVZC w r).c = s.c := rfl
@[simp] theorem State.setNVZC_x (w : Width) (r : AluResult) : (s.setNVZC w r).x = s.x := rfl
@[simp] theorem State.setNVZC_y (w : Width) (r : AluResult) : (s.setNVZC w r).y = s.y := rfl
@[simp] theorem State.setNVZC_sp (w : Width) (r : AluResult) : (s.setNVZC w r).sp = s.sp := rfl
@[simp] theorem State.setNVZC_d (w : Width) (r : AluResult) : (s.setNVZC w r).d = s.d := rfl
@[simp] theorem State.setNVZC_dbr (w : Width) (r : AluResult) : (s.setNVZC w r).dbr = s.dbr := rfl
@[simp] theorem State.setNVZC_pbr (w : Width) (r : AluResult) : (s.setNVZC w r).pbr = s.pbr := rfl
@[simp] theorem State.setNVZC_pc (w : Width) (r : AluResult) : (s.setNVZC w r).pc = s.pc := rfl
@[simp] theorem State.setNVZC_p (w : Width) (r : AluResult) :
    (s.setNVZC w r).p = (((s.setFlag maskC r.carry).setFlag maskV r.overflow).setNZ w r.value).p := rfl
@[simp] theorem State.setNVZC_e (w : Width) (r : AluResult) : (s.setNVZC w r).e = s.e := rfl
@[simp] theorem State.setNVZC_mem (w : Width) (r : AluResult) : (s.setNVZC w r).mem = s.mem := rfl
@[simp] theorem State.setNVZC_cyc (w : Width) (r : AluResult) : (s.setNVZC w r).cyc = s.cyc := rfl

/-! ### `setA` -/

@[simp] theorem State.setA_c (w : Width) (v : Word) :
    (s.setA w v).c = (match w with | .w8 => word (lo v) (hi s.c) | .w16 => v) := rfl
@[simp] theorem State.setA_x (w : Width) (v : Word) : (s.setA w v).x = s.x := rfl
@[simp] theorem State.setA_y (w : Width) (v : Word) : (s.setA w v).y = s.y := rfl
@[simp] theorem State.setA_sp (w : Width) (v : Word) : (s.setA w v).sp = s.sp := rfl
@[simp] theorem State.setA_d (w : Width) (v : Word) : (s.setA w v).d = s.d := rfl
@[simp] theorem State.setA_dbr (w : Width) (v : Word) : (s.setA w v).dbr = s.dbr := rfl
@[simp] theorem State.setA_pbr (w : Width) (v : Word) : (s.setA w v).pbr = s.pbr := rfl
@[simp] theorem State.setA_pc (w : Width) (v : Word) : (s.setA w v).pc = s.pc := rfl
@[simp] theorem State.setA_p (w : Width) (v : Word) : (s.setA w v).p = s.p := rfl
@[simp] theorem State.setA_e (w : Width) (v : Word) : (s.setA w v).e = s.e := rfl
@[simp] theorem State.setA_mem (w : Width) (v : Word) : (s.setA w v).mem = s.mem := rfl
@[simp] theorem State.setA_cyc (w : Width) (v : Word) : (s.setA w v).cyc = s.cyc := rfl

/-! ### `setX` -/

@[simp] theorem State.setX_c (w : Width) (v : Word) : (s.setX w v).c = s.c := rfl
@[simp] theorem State.setX_x (w : Width) (v : Word) : (s.setX w v).x = truncTo w v := rfl
@[simp] theorem State.setX_y (w : Width) (v : Word) : (s.setX w v).y = s.y := rfl
@[simp] theorem State.setX_sp (w : Width) (v : Word) : (s.setX w v).sp = s.sp := rfl
@[simp] theorem State.setX_d (w : Width) (v : Word) : (s.setX w v).d = s.d := rfl
@[simp] theorem State.setX_dbr (w : Width) (v : Word) : (s.setX w v).dbr = s.dbr := rfl
@[simp] theorem State.setX_pbr (w : Width) (v : Word) : (s.setX w v).pbr = s.pbr := rfl
@[simp] theorem State.setX_pc (w : Width) (v : Word) : (s.setX w v).pc = s.pc := rfl
@[simp] theorem State.setX_p (w : Width) (v : Word) : (s.setX w v).p = s.p := rfl
@[simp] theorem State.setX_e (w : Width) (v : Word) : (s.setX w v).e = s.e := rfl
@[simp] theorem State.setX_mem (w : Width) (v : Word) : (s.setX w v).mem = s.mem := rfl
@[simp] theorem State.setX_cyc (w : Width) (v : Word) : (s.setX w v).cyc = s.cyc := rfl

/-! ### `setY` -/

@[simp] theorem State.setY_c (w : Width) (v : Word) : (s.setY w v).c = s.c := rfl
@[simp] theorem State.setY_x (w : Width) (v : Word) : (s.setY w v).x = s.x := rfl
@[simp] theorem State.setY_y (w : Width) (v : Word) : (s.setY w v).y = truncTo w v := rfl
@[simp] theorem State.setY_sp (w : Width) (v : Word) : (s.setY w v).sp = s.sp := rfl
@[simp] theorem State.setY_d (w : Width) (v : Word) : (s.setY w v).d = s.d := rfl
@[simp] theorem State.setY_dbr (w : Width) (v : Word) : (s.setY w v).dbr = s.dbr := rfl
@[simp] theorem State.setY_pbr (w : Width) (v : Word) : (s.setY w v).pbr = s.pbr := rfl
@[simp] theorem State.setY_pc (w : Width) (v : Word) : (s.setY w v).pc = s.pc := rfl
@[simp] theorem State.setY_p (w : Width) (v : Word) : (s.setY w v).p = s.p := rfl
@[simp] theorem State.setY_e (w : Width) (v : Word) : (s.setY w v).e = s.e := rfl
@[simp] theorem State.setY_mem (w : Width) (v : Word) : (s.setY w v).mem = s.mem := rfl
@[simp] theorem State.setY_cyc (w : Width) (v : Word) : (s.setY w v).cyc = s.cyc := rfl

/-! ### `setS` -/

@[simp] theorem State.setS_c (v : Word) : (s.setS v).c = s.c := rfl
@[simp] theorem State.setS_x (v : Word) : (s.setS v).x = s.x := rfl
@[simp] theorem State.setS_y (v : Word) : (s.setS v).y = s.y := rfl
@[simp] theorem State.setS_sp (v : Word) : (s.setS v).sp = if s.e then pageOne v else v := rfl
@[simp] theorem State.setS_d (v : Word) : (s.setS v).d = s.d := rfl
@[simp] theorem State.setS_dbr (v : Word) : (s.setS v).dbr = s.dbr := rfl
@[simp] theorem State.setS_pbr (v : Word) : (s.setS v).pbr = s.pbr := rfl
@[simp] theorem State.setS_pc (v : Word) : (s.setS v).pc = s.pc := rfl
@[simp] theorem State.setS_p (v : Word) : (s.setS v).p = s.p := rfl
@[simp] theorem State.setS_e (v : Word) : (s.setS v).e = s.e := rfl
@[simp] theorem State.setS_mem (v : Word) : (s.setS v).mem = s.mem := rfl
@[simp] theorem State.setS_cyc (v : Word) : (s.setS v).cyc = s.cyc := rfl

/-! ### `setD` -/

@[simp] theorem State.setD_c (v : Word) : (s.setD v).c = s.c := rfl
@[simp] theorem State.setD_x (v : Word) : (s.setD v).x = s.x := rfl
@[simp] theorem State.setD_y (v : Word) : (s.setD v).y = s.y := rfl
@[simp] theorem State.setD_sp (v : Word) : (s.setD v).sp = s.sp := rfl
@[simp] theorem State.setD_d (v : Word) : (s.setD v).d = v := rfl
@[simp] theorem State.setD_dbr (v : Word) : (s.setD v).dbr = s.dbr := rfl
@[simp] theorem State.setD_pbr (v : Word) : (s.setD v).pbr = s.pbr := rfl
@[simp] theorem State.setD_pc (v : Word) : (s.setD v).pc = s.pc := rfl
@[simp] theorem State.setD_p (v : Word) : (s.setD v).p = s.p := rfl
@[simp] theorem State.setD_e (v : Word) : (s.setD v).e = s.e := rfl
@[simp] theorem State.setD_mem (v : Word) : (s.setD v).mem = s.mem := rfl
@[simp] theorem State.setD_cyc (v : Word) : (s.setD v).cyc = s.cyc := rfl

/-! ### `setDbr` -/

@[simp] theorem State.setDbr_c (v : Byte) : (s.setDbr v).c = s.c := rfl
@[simp] theorem State.setDbr_x (v : Byte) : (s.setDbr v).x = s.x := rfl
@[simp] theorem State.setDbr_y (v : Byte) : (s.setDbr v).y = s.y := rfl
@[simp] theorem State.setDbr_sp (v : Byte) : (s.setDbr v).sp = s.sp := rfl
@[simp] theorem State.setDbr_d (v : Byte) : (s.setDbr v).d = s.d := rfl
@[simp] theorem State.setDbr_dbr (v : Byte) : (s.setDbr v).dbr = v := rfl
@[simp] theorem State.setDbr_pbr (v : Byte) : (s.setDbr v).pbr = s.pbr := rfl
@[simp] theorem State.setDbr_pc (v : Byte) : (s.setDbr v).pc = s.pc := rfl
@[simp] theorem State.setDbr_p (v : Byte) : (s.setDbr v).p = s.p := rfl
@[simp] theorem State.setDbr_e (v : Byte) : (s.setDbr v).e = s.e := rfl
@[simp] theorem State.setDbr_mem (v : Byte) : (s.setDbr v).mem = s.mem := rfl
@[simp] theorem State.setDbr_cyc (v : Byte) : (s.setDbr v).cyc = s.cyc := rfl

/-! ### `setPbr` -/

@[simp] theorem State.setPbr_c (v : Byte) : (s.setPbr v).c = s.c := rfl
@[simp] theorem State.setPbr_x (v : Byte) : (s.setPbr v).x = s.x := rfl
@[simp] theorem State.setPbr_y (v : Byte) : (s.setPbr v).y = s.y := rfl
@[simp] theorem State.setPbr_sp (v : Byte) : (s.setPbr v).sp = s.sp := rfl
@[simp] theorem State.setPbr_d (v : Byte) : (s.setPbr v).d = s.d := rfl
@[simp] theorem State.setPbr_dbr (v : Byte) : (s.setPbr v).dbr = s.dbr := rfl
@[simp] theorem State.setPbr_pbr (v : Byte) : (s.setPbr v).pbr = v := rfl
@[simp] theorem State.setPbr_pc (v : Byte) : (s.setPbr v).pc = s.pc := rfl
@[simp] theorem State.setPbr_p (v : Byte) : (s.setPbr v).p = s.p := rfl
@[simp] theorem State.setPbr_e (v : Byte) : (s.setPbr v).e = s.e := rfl
@[simp] theorem State.setPbr_mem (v : Byte) : (s.setPbr v).mem = s.mem := rfl
@[simp] theorem State.setPbr_cyc (v : Byte) : (s.setPbr v).cyc = s.cyc := rfl

/-! ### `setPc` -/

@[simp] theorem State.setPc_c (v : Word) : (s.setPc v).c = s.c := rfl
@[simp] theorem State.setPc_x (v : Word) : (s.setPc v).x = s.x := rfl
@[simp] theorem State.setPc_y (v : Word) : (s.setPc v).y = s.y := rfl
@[simp] theorem State.setPc_sp (v : Word) : (s.setPc v).sp = s.sp := rfl
@[simp] theorem State.setPc_d (v : Word) : (s.setPc v).d = s.d := rfl
@[simp] theorem State.setPc_dbr (v : Word) : (s.setPc v).dbr = s.dbr := rfl
@[simp] theorem State.setPc_pbr (v : Word) : (s.setPc v).pbr = s.pbr := rfl
@[simp] theorem State.setPc_pc (v : Word) : (s.setPc v).pc = v := rfl
@[simp] theorem State.setPc_p (v : Word) : (s.setPc v).p = s.p := rfl
@[simp] theorem State.setPc_e (v : Word) : (s.setPc v).e = s.e := rfl
@[simp] theorem State.setPc_mem (v : Word) : (s.setPc v).mem = s.mem := rfl
@[simp] theorem State.setPc_cyc (v : Word) : (s.setPc v).cyc = s.cyc := rfl

/-! ### `advance` -/

@[simp] theorem State.advance_c (n : Nat) : (s.advance n).c = s.c := rfl
@[simp] theorem State.advance_x (n : Nat) : (s.advance n).x = s.x := rfl
@[simp] theorem State.advance_y (n : Nat) : (s.advance n).y = s.y := rfl
@[simp] theorem State.advance_sp (n : Nat) : (s.advance n).sp = s.sp := rfl
@[simp] theorem State.advance_d (n : Nat) : (s.advance n).d = s.d := rfl
@[simp] theorem State.advance_dbr (n : Nat) : (s.advance n).dbr = s.dbr := rfl
@[simp] theorem State.advance_pbr (n : Nat) : (s.advance n).pbr = s.pbr := rfl
@[simp] theorem State.advance_pc (n : Nat) : (s.advance n).pc = s.pc + BitVec.ofNat 16 n := rfl
@[simp] theorem State.advance_p (n : Nat) : (s.advance n).p = s.p := rfl
@[simp] theorem State.advance_e (n : Nat) : (s.advance n).e = s.e := rfl
@[simp] theorem State.advance_mem (n : Nat) : (s.advance n).mem = s.mem := rfl
@[simp] theorem State.advance_cyc (n : Nat) : (s.advance n).cyc = s.cyc := rfl

/-! ### `addCycles` -/

@[simp] theorem State.addCycles_c (n : Int) : (s.addCycles n).c = s.c := rfl
@[simp] theorem State.addCycles_x (n : Int) : (s.addCycles n).x = s.x := rfl
@[simp] theorem State.addCycles_y (n : Int) : (s.addCycles n).y = s.y := rfl
@[simp] theorem State.addCycles_sp (n : Int) : (s.addCycles n).sp = s.sp := rfl
@[simp] theorem State.addCycles_d (n : Int) : (s.addCycles n).d = s.d := rfl
@[simp] theorem State.addCycles_dbr (n : Int) : (s.addCycles n).dbr = s.dbr := rfl
@[simp] theorem State.addCycles_pbr (n : Int) : (s.addCycles n).pbr = s.pbr := rfl
@[simp] theorem State.addCycles_pc (n : Int) : (s.addCycles n).pc = s.pc := rfl
@[simp] theorem State.addCycles_p (n : Int) : (s.addCycles n).p = s.p := rfl
@[simp] theorem State.addCycles_e (n : Int) : (s.addCycles n).e = s.e := rfl
@[simp] theorem State.addCycles_mem (n : Int) : (s.addCycles n).mem = s.mem := rfl
@[simp] theorem State.addCycles_cyc (n : Int) : (s.addCycles n).cyc = s.cyc + BitVec.ofInt 64 n := rfl

/-! ### `push8` -/

@[simp] theorem State.push8_c (v : Byte) : (s.push8 v).c = s.c := rfl
@[simp] theorem State.push8_x (v : Byte) : (s.push8 v).x = s.x := rfl
@[simp] theorem State.push8_y (v : Byte) : (s.push8 v).y = s.y := rfl
@[simp] theorem State.push8_sp (v : Byte) : (s.push8 v).sp = if s.e then pageOne (s.sp - 1) else s.sp - 1 := rfl
@[simp] theorem State.push8_d (v : Byte) : (s.push8 v).d = s.d := rfl
@[simp] theorem State.push8_dbr (v : Byte) : (s.push8 v).dbr = s.dbr := rfl
@[simp] theorem State.push8_pbr (v : Byte) : (s.push8 v).pbr = s.pbr := rfl
@[simp] theorem State.push8_pc (v : Byte) : (s.push8 v).pc = s.pc := rfl
@[simp] theorem State.push8_p (v : Byte) : (s.push8 v).p = s.p := rfl
@[simp] theorem State.push8_e (v : Byte) : (s.push8 v).e = s.e := rfl
@[simp] theorem State.push8_mem (v : Byte) : (s.push8 v).mem = memWrite s.mem (addr 0x00 s.sp).toNat v := rfl
@[simp] theorem State.push8_cyc (v : Byte) : (s.push8 v).cyc = s.cyc := rfl

/-! ### `pop8` -/

@[simp] theorem State.pop8_c : s.pop8.c = s.c := rfl
@[simp] theorem State.pop8_x : s.pop8.x = s.x := rfl
@[simp] theorem State.pop8_y : s.pop8.y = s.y := rfl
@[simp] theorem State.pop8_sp : s.pop8.sp = if s.e then pageOne (s.sp + 1) else s.sp + 1 := rfl
@[simp] theorem State.pop8_d : s.pop8.d = s.d := rfl
@[simp] theorem State.pop8_dbr : s.pop8.dbr = s.dbr := rfl
@[simp] theorem State.pop8_pbr : s.pop8.pbr = s.pbr := rfl
@[simp] theorem State.pop8_pc : s.pop8.pc = s.pc := rfl
@[simp] theorem State.pop8_p : s.pop8.p = s.p := rfl
@[simp] theorem State.pop8_e : s.pop8.e = s.e := rfl
@[simp] theorem State.pop8_mem : s.pop8.mem = s.mem := rfl
@[simp] theorem State.pop8_cyc : s.pop8.cyc = s.cyc := rfl

/-! ### `normalize` -/

@[simp] theorem State.normalize_c : s.normalize.c = s.c := rfl
@[simp] theorem State.normalize_x :
    s.normalize.x = if (forceWidths s.e s.p).getLsbD 4 then word (lo s.x) 0x00 else s.x := rfl
@[simp] theorem State.normalize_y :
    s.normalize.y = if (forceWidths s.e s.p).getLsbD 4 then word (lo s.y) 0x00 else s.y := rfl
@[simp] theorem State.normalize_sp : s.normalize.sp = if s.e then pageOne s.sp else s.sp := rfl
@[simp] theorem State.normalize_d : s.normalize.d = s.d := rfl
@[simp] theorem State.normalize_dbr : s.normalize.dbr = s.dbr := rfl
@[simp] theorem State.normalize_pbr : s.normalize.pbr = s.pbr := rfl
@[simp] theorem State.normalize_pc : s.normalize.pc = s.pc := rfl
@[simp] theorem State.normalize_p : s.normalize.p = forceWidths s.e s.p := rfl
@[simp] theorem State.normalize_e : s.normalize.e = s.e := rfl
@[simp] theorem State.normalize_mem : s.normalize.mem = s.mem := rfl
@[simp] theorem State.normalize_cyc : s.normalize.cyc = s.cyc := rfl

/-! ### `setP` -/

@[simp] theorem State.setP_c (v : Byte) : (s.setP v).c = s.c := rfl
@[simp] theorem State.setP_x (v : Byte) :
    (s.setP v).x = if (forceWidths s.e v).getLsbD 4 then word (lo s.x) 0x00 else s.x := rfl
@[simp] theorem State.setP_y (v : Byte) :
    (s.setP v).y = if (forceWidths s.e v).getLsbD 4 then word (lo s.y) 0x00 else s.y := rfl
@[simp] theorem State.setP_sp (v : Byte) : (s.setP v).sp = if s.e then pageOne s.sp else s.sp := rfl
@[simp] theorem State.setP_d (v : Byte) : (s.setP v).d = s.d := rfl
@[simp] theorem State.setP_dbr (v : Byte) : (s.setP v).dbr = s.dbr := rfl
@[simp] theorem State.setP_pbr (v : Byte) : (s.setP v).pbr = s.pbr := rfl
@[simp] theorem State.setP_pc (v : Byte) : (s.setP v).pc = s.pc := rfl
@[simp] theorem State.setP_p (v : Byte) : (s.setP v).p = forceWidths s.e v := rfl
@[simp] theorem State.setP_e (v : Byte) : (s.setP v).e = s.e := rfl
@[simp] theorem State.setP_mem (v : Byte) : (s.setP v).mem = s.mem := rfl
@[simp] theorem State.setP_cyc (v : Byte) : (s.setP v).cyc = s.cyc := rfl

/-! ### `setE` -/

@[simp] theorem State.setE_c (b : Bool) : (s.setE b).c = s.c := rfl
@[simp] theorem State.setE_x (b : Bool) :
    (s.setE b).x = if (forceWidths b s.p).getLsbD 4 then word (lo s.x) 0x00 else s.x := rfl
@[simp] theorem State.setE_y (b : Bool) :
    (s.setE b).y = if (forceWidths b s.p).getLsbD 4 then word (lo s.y) 0x00 else s.y := rfl
@[simp] theorem State.setE_sp (b : Bool) : (s.setE b).sp = if b then pageOne s.sp else s.sp := rfl
@[simp] theorem State.setE_d (b : Bool) : (s.setE b).d = s.d := rfl
@[simp] theorem State.setE_dbr (b : Bool) : (s.setE b).dbr = s.dbr := rfl
@[simp] theorem State.setE_pbr (b : Bool) : (s.setE b).pbr = s.pbr := rfl
@[simp] theorem State.setE_pc (b : Bool) : (s.setE b).pc = s.pc := rfl
@[simp] theorem State.setE_p (b : Bool) : (s.setE b).p = forceWidths b s.p := rfl
@[simp] theorem State.setE_e (b : Bool) : (s.setE b).e = b := rfl
@[simp] theorem State.setE_mem (b : Bool) : (s.setE b).mem = s.mem := rfl
@[simp] theorem State.setE_cyc (b : Bool) : (s.setE b).cyc = s.cyc := rfl

end Fields

/-! ### Flags after a single-flag write -/

section FlagBits

variable (s : State) (b : Bool)

@[simp] theorem flagN_setN : (s.setFlag maskN b).flagN = b := by
  simp only [State.flagN, State.setFlag_p, putFlag, maskN]; cases b <;> simp
@[simp] theorem flagV_setN : (s.setFlag maskN b).flagV = s.flagV := by
  simp only [State.flagV, State.setFlag_p, putFlag, maskN]; cases b <;> simp
@[simp] theorem flagM_setN : (s.setFlag maskN b).flagM = s.flagM := by
  simp only [State.flagM, State.setFlag_p, putFlag, maskN]; cases b <;> simp
@[simp] theorem flagX_setN : (s.setFlag maskN b).flagX = s.flagX := by
  simp only [State.flagX, State.setFlag_p, putFlag, maskN]; cases b <;> simp
@[simp] theorem flagD_setN : (s.setFlag maskN b).flagD = s.flagD := by
  simp only [State.flagD, State.setFlag_p, putFlag, maskN]; cases b <;> simp
@[simp] theorem flagI_setN : (s.setFlag maskN b).flagI = s.flagI := by
  simp only [State.flagI, State.setFlag_p, putFlag, maskN]; cases b <;> simp
@[simp] theorem flagZ_setN : (s.setFlag maskN b).flagZ = s.flagZ := by
  simp only [State.flagZ, State.setFlag_p, putFlag, maskN]; cases b <;> simp
@[simp] theorem flagC_setN : (s.setFlag maskN b).flagC = s.flagC := by
  simp only [State.flagC, State.setFlag_p, putFlag, maskN]; cases b <;> simp
@[simp] theorem flagN_setV : (s.setFlag maskV b).flagN = s.flagN := by
  simp only [State.flagN, State.setFlag_p, putFlag, maskV]; cases b <;> simp
@[simp] theorem flagV_setV : (s.setFlag maskV b).flagV = b := by
  simp only [State.flagV, State.setFlag_p, putFlag, maskV]; cases b <;> simp
@[simp] theorem flagM_setV : (s.setFlag maskV b).flagM = s.flagM := by
  simp only [State.flagM, State.setFlag_p, putFlag, maskV]; cases b <;> simp
@[simp] theorem flagX_setV : (s.setFlag maskV b).flagX = s.flagX := by
  simp only [State.flagX, State.setFlag_p, putFlag, maskV]; cases b <;> simp
@[simp] theorem flagD_setV : (s.setFlag maskV b).flagD = s.flagD := by
  simp only [State.flagD, State.setFlag_p, putFlag, maskV]; cases b <;> simp
@[simp] theorem flagI_setV : (s.setFlag maskV b).flagI = s.flagI := by
  simp only [State.flagI, State.setFlag_p, putFlag, maskV]; cases b <;> simp
@[simp] theorem flagZ_setV : (s.setFlag maskV b).flagZ = s.flagZ := by
  simp only [State.flagZ, State.setFlag_p, putFlag, maskV]; cases b <;> simp
@[simp] theorem flagC_setV : (s.setFlag maskV b).flagC = s.flagC := by
  simp only [State.flagC, State.setFlag_p, putFlag, maskV]; cases b <;> simp
@[simp] theorem flagN_setD : (s.setFlag maskD b).flagN = s.flagN := by
  simp only [State.flagN, State.setFlag_p, putFlag, maskD]; cases b <;> simp
@[simp] theorem flagV_setD : (s.setFlag maskD b).flagV = s.flagV := by
  simp only [State.flagV, State.setFlag_p, putFlag, maskD]; cases b <;> simp
@[simp] theorem flagM_setD : (s.setFlag maskD b).flagM = s.flagM := by
  simp only [State.flagM, State.setFlag_p, putFlag, maskD]; cases b <;> simp
@[simp] theorem flagX_setD : (s.setFlag maskD b).flagX = s.flagX := by
  simp only [State.flagX, State.setFlag_p, putFlag, maskD]; cases b <;> simp
@[simp] theorem flagD_setD : (s.setFlag maskD b).flagD = b := by
  simp only [State.flagD, State.setFlag_p, putFlag, maskD]; cases b <;> simp
@[simp] theorem flagI_setD : (s.setFlag maskD b).flagI = s.flagI := by
  simp only [State.flagI, State.setFlag_p, putFlag, maskD]; cases b <;> simp
@[simp] theorem flagZ_setD : (s.setFlag maskD b).flagZ = s.flagZ := by
  simp only [State.flagZ, State.setFlag_p, putFlag, maskD]; cases b <;> simp
@[simp] theorem flagC_setD : (s.setFlag maskD b).flagC = s.flagC := by
  simp only [State.flagC, State.setFlag_p, putFlag, maskD]; cases b <;> simp
@[simp] theorem flagN_setI : (s.setFlag maskI b).flagN = s.flagN := by
  simp only [State.flagN, State.setFlag_p, putFlag, maskI]; cases b <;> simp
@[simp] theorem flagV_setI : (s.setFlag maskI b).flagV = s.flagV := by
  simp only [State.flagV, State.setFlag_p, putFlag, maskI]; cases b <;> simp
@[simp] theorem flagM_setI : (s.setFlag maskI b).flagM = s.flagM := by
  simp only [State.flagM, State.setFlag_p, putFlag, maskI]; cases b <;> simp
@[simp] theorem flagX_setI : (s.setFlag maskI b).flagX = s.flagX := by
  simp only [State.flagX, State.setFlag_p, putFlag, maskI]; cases b <;> simp
@[simp] theorem flagD_setI : (s.setFlag maskI b).flagD = s.flagD := by
  simp only [State.flagD, State.setFlag_p, putFlag, maskI]; cases b <;> simp
@[simp] theorem flagI_setI : (s.setFlag maskI b).flagI = b := by
  simp only [State.flagI, State.setFlag_p, putFlag, maskI]; cases b <;> simp
@[simp] theorem flagZ_setI : (s.setFlag maskI b).flagZ = s.flagZ := by
  simp only [State.flagZ, State.setFlag_p, putFlag, maskI]; cases b <;> simp
@[simp] theorem flagC_setI : (s.setFlag maskI b).flagC = s.flagC := by
  simp only [State.flagC, State.setFlag_p, putFlag, maskI]; cases b <;> simp
@[simp] theorem flagN_setZ : (s.setFlag maskZ b).flagN = s.flagN := by
  simp only [State.flagN, State.setFlag_p, putFlag, maskZ]; cases b <;> simp
@[simp] theorem flagV_setZ : (s.setFlag maskZ b).flagV = s.flagV := by
  simp only [State.flagV, State.setFlag_p, putFlag, maskZ]; cases b <;> simp
@[simp] theorem flagM_setZ : (s.setFlag maskZ b).flagM = s.flagM := by
  simp only [State.flagM, State.setFlag_p, putFlag, maskZ]; cases b <;> simp
@[simp] theorem flagX_setZ : (s.setFlag maskZ b).flagX = s.flagX := by
  simp only [State.flagX, State.setFlag_p, putFlag, maskZ]; cases b <;> simp
@[simp] theorem flagD_setZ : (s.setFlag maskZ b).flagD = s.flagD := by
  simp only [State.flagD, State.setFlag_p, putFlag, maskZ]; cases b <;> simp
@[simp] theorem flagI_setZ : (s.setFlag maskZ b).flagI = s.flagI := by
  simp only [State.flagI, State.setFlag_p, putFlag, maskZ]; cases b <;> simp
@[simp] theorem flagZ_setZ : (s.setFlag maskZ b).flagZ = b := by
  simp only [State.flagZ, State.setFlag_p, putFlag, maskZ]; cases b <;> simp
@[simp] theorem flagC_setZ : (s.setFlag maskZ b).flagC = s.flagC := by
  simp only [State.flagC, State.setFlag_p, putFlag, maskZ]; cases b <;> simp
@[simp] theorem flagN_setC : (s.setFlag maskC b).flagN = s.flagN := by
  simp only [State.flagN, State.setFlag_p, putFlag, maskC]; cases b <;> simp
@[simp] theorem flagV_setC : (s.setFlag maskC b).flagV = s.flagV := by
  simp only [State.flagV, State.setFlag_p, putFlag, maskC]; cases b <;> simp
@[simp] theorem flagM_setC : (s.setFlag maskC b).flagM = s.flagM := by
  simp only [State.flagM, State.setFlag_p, putFlag, maskC]; cases b <;> simp
@[simp] theorem flagX_setC : (s.setFlag maskC b).flagX = s.flagX := by
  simp only [State.flagX, State.setFlag_p, putFlag, maskC]; cases b <;> simp
@[simp] theorem flagD_setC : (s.setFlag maskC b).flagD = s.flagD := by
  simp only [State.flagD, State.setFlag_p, putFlag, maskC]; cases b <;> simp
@[simp] theorem flagI_setC : (s.setFlag maskC b).flagI = s.flagI := by
  simp only [State.flagI, State.setFlag_p, putFlag, maskC]; cases b <;> simp
@[simp] theorem flagZ_setC : (s.setFlag maskC b).flagZ = s.flagZ := by
  simp only [State.flagZ, State.setFlag_p, putFlag, maskC]; cases b <;> simp
@[simp] theorem flagC_setC : (s.setFlag maskC b).flagC = b := by
  simp only [State.flagC, State.setFlag_p, putFlag, maskC]; cases b <;> simp

end FlagBits

end Sys2Proof.Machine
end

