-- ==== Sys2Proof/Laws/Memory.lean ====
section
/-! SUPPORT. The laws of memory: a read after a write to the same cell gives the value written, a write leaves every other
cell alone, and every write keeps the canonical form; then the same for the multi-byte accesses (R62 to R65). -/

namespace Sys2Proof.Machine

/-! ### One cell -/

theorem memRead_memErase (m : Memory) (a b : Nat) :
    memRead (memErase m a) b = if b = a then Config.memInit else memRead m b := by
  induction m with
  | nil => simp [memErase, memRead]
  | cons cell rest ih =>
    obtain ⟨k, v⟩ := cell
    unfold memErase at ih ⊢
    by_cases hk : k = a
    · subst hk
      simp only [List.filter_cons, ne_eq, not_true_eq_false, decide_false, Bool.false_eq_true, if_false, ih, memRead]
      split <;> simp_all
    · simp only [List.filter_cons, ne_eq, hk, not_false_eq_true, decide_true, if_true, memRead, ih]
      split
      · subst_vars; rw [if_neg hk]
      · rfl

theorem memRead_memInsert (m : Memory) (a : Nat) (v : Byte) (h : ∀ cell ∈ m, cell.1 ≠ a) (b : Nat) :
    memRead (memInsert m a v) b = if b = a then v else memRead m b := by
  induction m with
  | nil => simp [memInsert, memRead, eq_comm]
  | cons cell rest ih =>
    obtain ⟨k, u⟩ := cell
    have hk : k ≠ a := h (k, u) List.mem_cons_self
    have ih := ih fun cell hc => h cell (List.mem_cons_of_mem _ hc)
    simp only [memInsert]
    split
    · simp [memRead, eq_comm]
    · simp only [memRead, ih]
      split
      · subst_vars; rw [if_neg hk]
      · rfl

theorem ne_of_mem_memErase {m : Memory} {a : Nat} {cell : Host.Cell} (h : cell ∈ memErase m a) : cell.1 ≠ a := by
  simpa [memErase] using (List.mem_filter.mp h).2

/-- R44, R76: a read returns the value of the last write to that cell. -/
theorem memRead_memWrite (m : Memory) (a : Nat) (v : Byte) (b : Nat) :
    memRead (memWrite m a v) b = if b = a then v else memRead m b := by
  unfold memWrite
  split
  · rw [memRead_memErase]; split <;> simp_all
  · rw [memRead_memInsert _ _ _ (fun _ hc => ne_of_mem_memErase hc), memRead_memErase]
    split <;> simp_all

@[simp] theorem readMem_writeMem_same (s : State) (a : Addr) (v : Byte) : (s.writeMem a v).readMem a = v := by
  simp [State.readMem, memRead_memWrite]

theorem readMem_writeMem_other (s : State) {a b : Addr} (v : Byte) (h : b ≠ a) :
    (s.writeMem a v).readMem b = s.readMem b := by
  have : b.toNat ≠ a.toNat := fun e => h (BitVec.eq_of_toNat_eq e)
  simp [State.readMem, memRead_memWrite, this]

/-! ### The canonical form -/

theorem wfFrom_weaken {n k : Nat} {m : Memory} (h : Memory.wfFrom k m = true) (hn : n ≤ k) :
    Memory.wfFrom n m = true := by
  cases m with
  | nil => rfl
  | cons cell rest =>
    obtain ⟨a, v⟩ := cell
    simp only [Memory.wfFrom, Bool.and_eq_true, decide_eq_true_eq] at h ⊢
    exact ⟨⟨⟨Nat.le_trans hn h.1.1.1, h.1.1.2⟩, h.1.2⟩, h.2⟩

theorem wfFrom_memErase {n : Nat} {m : Memory} (a : Nat) (h : Memory.wfFrom n m = true) :
    Memory.wfFrom n (memErase m a) = true := by
  induction m generalizing n with
  | nil => rfl
  | cons cell rest ih =>
    obtain ⟨k, v⟩ := cell
    simp only [Memory.wfFrom, Bool.and_eq_true, decide_eq_true_eq] at h
    have ih' := ih h.2
    unfold memErase at ih' ⊢
    by_cases hk : k = a
    · simp only [List.filter_cons, hk, ne_eq, not_true_eq_false, decide_false, Bool.false_eq_true, if_false]
      subst hk
      exact wfFrom_weaken ih' (by omega)
    · simp only [List.filter_cons, hk, ne_eq, not_false_eq_true, decide_true, if_true, Memory.wfFrom, Bool.and_eq_true,
        decide_eq_true_eq]
      exact ⟨h.1, ih'⟩

theorem wfFrom_memInsert {n : Nat} {m : Memory} {a : Nat} {v : Byte} (h : Memory.wfFrom n m = true) (hn : n ≤ a)
    (ha : a < 2 ^ 24) (hv : v ≠ Config.memInit) (hm : ∀ cell ∈ m, cell.1 ≠ a) :
    Memory.wfFrom n (memInsert m a v) = true := by
  induction m generalizing n with
  | nil =>
    simp only [memInsert, Memory.wfFrom, Bool.and_eq_true, decide_eq_true_eq]
    exact ⟨⟨⟨hn, ha⟩, hv⟩, trivial⟩
  | cons cell rest ih =>
    obtain ⟨k, u⟩ := cell
    have hk : k ≠ a := hm (k, u) List.mem_cons_self
    simp only [Memory.wfFrom, Bool.and_eq_true, decide_eq_true_eq] at h
    simp only [memInsert]
    split
    · simp only [Memory.wfFrom, Bool.and_eq_true, decide_eq_true_eq]
      exact ⟨⟨⟨hn, ha⟩, hv⟩, ⟨⟨by omega, h.1.1.2⟩, h.1.2⟩, h.2⟩
    · simp only [Memory.wfFrom, Bool.and_eq_true, decide_eq_true_eq]
      exact ⟨h.1, ih h.2 (by omega) fun cell hc => hm cell (List.mem_cons_of_mem _ hc)⟩

/-- Every write of a 24-bit address keeps the canonical form. -/
theorem wf_memWrite {m : Memory} (a : Addr) (v : Byte) (h : m.wf = true) : (memWrite m a.toNat v).wf = true := by
  unfold memWrite
  split
  · exact wfFrom_memErase _ h
  · exact wfFrom_memInsert (wfFrom_memErase _ h) (Nat.zero_le _) a.isLt ‹_› fun _ hc => ne_of_mem_memErase hc

theorem wf_writeMem {s : State} (a : Addr) (v : Byte) (h : s.mem.wf = true) : (s.writeMem a v).mem.wf = true :=
  wf_memWrite a v h

/-! ### Multi-byte accesses -/

/-- A multi-byte write changes memory only. -/
theorem writeBytes_eq (s : State) (as : List Addr) (v : Nat) :
    s.writeBytes as v = { s with mem := (s.writeBytes as v).mem } := by
  induction as generalizing s v with
  | nil => rfl
  | cons a rest ih => rw [State.writeBytes, ih]; rfl

theorem wf_writeBytes {s : State} (as : List Addr) (v : Nat) (h : s.mem.wf = true) :
    (s.writeBytes as v).mem.wf = true := by
  induction as generalizing s v with
  | nil => exact h
  | cons a rest ih => exact ih (v / 256) (wf_writeMem a _ h)

/-- A multi-byte write leaves every byte outside its addresses alone. -/
theorem readMem_writeBytes_other (s : State) {as : List Addr} (v : Nat) {b : Addr} (h : b ∉ as) :
    (s.writeBytes as v).readMem b = s.readMem b := by
  induction as generalizing s v with
  | nil => rfl
  | cons a rest ih =>
    simp only [List.mem_cons, not_or] at h
    rw [State.writeBytes, ih _ _ h.2, readMem_writeMem_other _ _ h.1]

/-- R62: a multi-byte write read back gives the value, cut to the bytes written. -/
theorem readBytes_writeBytes (s : State) {as : List Addr} (v : Nat) (h : as.Nodup) :
    (s.writeBytes as v).readBytes as = v % 256 ^ as.length := by
  induction as generalizing s v with
  | nil => simp [State.readBytes, Nat.mod_one]
  | cons a rest ih =>
    simp only [List.nodup_cons] at h
    have hb : ∀ (t : State) (n : Nat), t.readMem a = BitVec.ofNat 8 v → (t.writeBytes rest n).readMem a =
        BitVec.ofNat 8 v := fun t n ht => by rw [readMem_writeBytes_other _ _ h.1, ht]
    rw [State.writeBytes, State.readBytes, ih _ _ h.2, hb _ _ (readMem_writeMem_same _ _ _), BitVec.toNat_ofNat,
      List.length_cons, show 256 ^ (rest.length + 1) = 256 * 256 ^ rest.length from Nat.pow_succ', Nat.mod_mul]

/-- A multi-byte read depends on the bytes at its addresses alone. -/
theorem readBytes_congr {s t : State} {as : List Addr} (h : ∀ a ∈ as, s.readMem a = t.readMem a) :
    s.readBytes as = t.readBytes as := by
  induction as with
  | nil => rfl
  | cons a rest ih =>
    rw [State.readBytes, State.readBytes, h a List.mem_cons_self, ih fun b hb => h b (List.mem_cons_of_mem _ hb)]

theorem linearAddrs_length (a : Addr) (n : Nat) : (linearAddrs a n).length = n := by
  induction n generalizing a with
  | zero => rfl
  | succ n ih => simp [linearAddrs, ih]

theorem bankAddrs_length (bank : Byte) (off : Word) (n : Nat) : (bankAddrs bank off n).length = n := by
  induction n generalizing off with
  | zero => rfl
  | succ n ih => simp [bankAddrs, ih]

/-- R5, R60: the number of the address `bank:off`. -/
theorem addr_toNat (bank : Byte) (off : Word) : (addr bank off).toNat = bank.toNat * 0x10000 + off.toNat := by
  have : (addr bank off).toNat = (bank.toNat <<< 16) ||| off.toNat := BitVec.toNat_append _ _
  rw [this, ← Nat.shiftLeft_add_eq_or_of_lt off.isLt, Nat.shiftLeft_eq]

theorem addr_inj {b c : Byte} {o p : Word} : addr b o = addr c p ↔ b = c ∧ o = p := by
  constructor
  · intro h
    have h := congrArg BitVec.toNat h
    rw [addr_toNat, addr_toNat] at h
    have := o.isLt
    have := p.isLt
    exact ⟨BitVec.eq_of_toNat_eq (by omega), BitVec.eq_of_toNat_eq (by omega)⟩
  · rintro ⟨rfl, rfl⟩; rfl

/-- R62: the number of a word of two bytes. -/
theorem word_toNat (low high : Byte) : (word low high).toNat = low.toNat + 256 * high.toNat := by
  have : (word low high).toNat = (high.toNat <<< 8) ||| low.toNat := BitVec.toNat_append _ _
  rw [this, ← Nat.shiftLeft_add_eq_or_of_lt low.isLt, Nat.shiftLeft_eq]
  omega

theorem lo_toNat (v : Word) : (lo v).toNat = v.toNat % 256 := by simp [lo]

theorem hi_toNat (v : Word) : (hi v).toNat = v.toNat / 256 := by
  have := v.isLt
  simp [hi, Nat.shiftRight_eq_div_pow]
  omega

@[simp] theorem lo_word (low high : Byte) : lo (word low high) = low := by
  apply BitVec.eq_of_toNat_eq; rw [lo_toNat, word_toNat]; have := low.isLt; omega

@[simp] theorem hi_word (low high : Byte) : hi (word low high) = high := by
  apply BitVec.eq_of_toNat_eq; rw [hi_toNat, word_toNat]; have := low.isLt; omega

@[simp] theorem word_lo_hi (v : Word) : word (lo v) (hi v) = v := by
  apply BitVec.eq_of_toNat_eq; rw [word_toNat, lo_toNat, hi_toNat]; omega

@[simp] theorem bankOf_addr (b : Byte) (o : Word) : bankOf (addr b o) = b := by
  apply BitVec.eq_of_toNat_eq
  have := o.isLt
  have := b.isLt
  simp [bankOf, addr_toNat, Nat.shiftRight_eq_div_pow]
  omega

@[simp] theorem offOf_addr (b : Byte) (o : Word) : offOf (addr b o) = o := by
  apply BitVec.eq_of_toNat_eq
  have := o.isLt
  simp [offOf, addr_toNat]
  omega

@[simp] theorem addr_bankOf_offOf (a : Addr) : addr (bankOf a) (offOf a) = a := by
  apply BitVec.eq_of_toNat_eq
  have := a.isLt
  simp [bankOf, offOf, addr_toNat, Nat.shiftRight_eq_div_pow]
  omega

/-- R62, R65: a 16-bit value read inside a bank is the two bytes, low byte first. -/
theorem readBank_two (s : State) (bank : Byte) (off : Word) :
    BitVec.ofNat 16 (s.readBank bank off 2) =
      word (s.readMem (addr bank off)) (s.readMem (addr bank (off + 1))) := by
  apply BitVec.eq_of_toNat_eq
  rw [word_toNat]
  have := (s.readMem (addr bank off)).isLt
  have := (s.readMem (addr bank (off + 1))).isLt
  simp [State.readBank, bankAddrs, State.readBytes]
  omega

/-- R62, R63: a 16-bit value read linearly is the two bytes, low byte first. -/
theorem readLinear_two (s : State) (a : Addr) :
    BitVec.ofNat 16 (s.readLinear a 2) = word (s.readMem a) (s.readMem (a + 1)) := by
  apply BitVec.eq_of_toNat_eq
  rw [word_toNat]
  have := (s.readMem a).isLt
  have := (s.readMem (a + 1)).isLt
  simp [State.readLinear, linearAddrs, State.readBytes]
  omega

/-- R72: an 8-bit value read is the byte, zero-extended. -/
theorem readBytes_one (s : State) (a : Addr) : BitVec.ofNat 16 (s.readBytes [a]) = word (s.readMem a) 0x00 := by
  apply BitVec.eq_of_toNat_eq
  rw [word_toNat]
  have := (s.readMem a).isLt
  simp [State.readBytes]
  omega

end Sys2Proof.Machine
end

