-- ==== Sys2Proof/Laws/Flags.lean ====
section
/-! SUPPORT. The status byte bit by bit: what a single-flag write does to each bit and what it leaves; n and z of a result; the
values the adders answer, as natural numbers. -/

namespace Sys2Proof.Machine

/-! ## Single-flag writes -/

theorem putFlag_getLsbD (p k : Byte) (b : Bool) (j : Nat) :
    (putFlag p k b).getLsbD j = if k.getLsbD j then b else p.getLsbD j := by
  unfold putFlag
  by_cases hj : j < 8
  · cases b <;> cases hk : k.getLsbD j <;> simp [hj] at hk ⊢ <;> simp [hk]
  · have h1 : p.getLsbD j = false := BitVec.getLsbD_of_ge _ _ (by omega)
    have h2 : k.getLsbD j = false := BitVec.getLsbD_of_ge _ _ (by omega)
    cases b <;> simp [h1, h2]

/-- A write of the bits of `k` leaves the bits of a mask that holds none of them. -/
theorem putFlag_and_of_disjoint (p k mask : Byte) (b : Bool) (h : k &&& mask = 0) :
    putFlag p k b &&& mask = p &&& mask := by
  apply BitVec.eq_of_getLsbD_eq
  intro j hj
  have hbit : (k.getLsbD j && mask.getLsbD j) = false := by
    rw [← BitVec.getLsbD_and, h]; simp
  simp only [BitVec.getLsbD_and, putFlag_getLsbD]
  cases hk : k.getLsbD j
  · simp
  · rw [hk, Bool.true_and] at hbit
    simp [hbit]

/-- R11: `SetNZ` leaves every flag of a mask that holds neither n nor z. -/
theorem setNZ_and_of_disjoint (s : State) (w : Width) (r : Word) (mask : Byte) (hn : maskN &&& mask = 0)
    (hz : maskZ &&& mask = 0) : (s.setNZ w r).p &&& mask = s.p &&& mask := by
  rw [State.setNZ_p, putFlag_and_of_disjoint _ _ _ _ hz, putFlag_and_of_disjoint _ _ _ _ hn]

@[simp] theorem flagN_setNZ (s : State) (w : Width) (r : Word) : (s.setNZ w r).flagN = msbOf w r := by
  simp [State.setNZ]

@[simp] theorem flagZ_setNZ (s : State) (w : Width) (r : Word) :
    (s.setNZ w r).flagZ = decide (truncTo w r = 0) := by
  simp [State.setNZ]

@[simp] theorem flagC_setNZ (s : State) (w : Width) (r : Word) : (s.setNZ w r).flagC = s.flagC := by
  simp [State.setNZ]

@[simp] theorem flagV_setNZ (s : State) (w : Width) (r : Word) : (s.setNZ w r).flagV = s.flagV := by
  simp [State.setNZ]

@[simp] theorem flagM_setNZ (s : State) (w : Width) (r : Word) : (s.setNZ w r).flagM = s.flagM := by
  simp [State.setNZ]

@[simp] theorem flagX_setNZ (s : State) (w : Width) (r : Word) : (s.setNZ w r).flagX = s.flagX := by
  simp [State.setNZ]

@[simp] theorem flagD_setNZ (s : State) (w : Width) (r : Word) : (s.setNZ w r).flagD = s.flagD := by
  simp [State.setNZ]

@[simp] theorem flagI_setNZ (s : State) (w : Width) (r : Word) : (s.setNZ w r).flagI = s.flagI := by
  simp [State.setNZ]

/-! ## Widths -/

theorem truncTo_toNat (w : Width) (v : Word) : (truncTo w v).toNat = v.toNat % 2 ^ w.bits := by
  cases w
  · simp [truncTo, Width.bits, word_toNat, lo_toNat]
  · have := v.isLt
    simp only [truncTo, Width.bits]
    omega

theorem msbOf_eq_testBit (w : Width) (v : Word) : msbOf w v = v.toNat.testBit (w.bits - 1) := by
  cases w <;> rfl

/-- R11: z says that the result is 0 at its width. -/
theorem truncTo_eq_zero (w : Width) (v : Word) : truncTo w v = 0 ↔ v.toNat % 2 ^ w.bits = 0 := by
  rw [← BitVec.toNat_inj, truncTo_toNat]; rfl

/-! ## Adders -/

/-- R12: the value of the binary sum. -/
theorem addBin_value (w : Width) (a b : Word) (c : Bool) :
    (addBin w a b c).value.toNat = (a.toNat + b.toNat + c.toNat) % 2 ^ w.bits := by
  cases w
  · simp only [addBin, Width.bits, BitVec.toNat_ofNat]; omega
  · simp only [addBin, Width.bits, BitVec.toNat_ofNat]; omega

/-- R12: the carry of the binary sum. -/
theorem addBin_carry (w : Width) (a b : Word) (c : Bool) :
    (addBin w a b c).carry = decide (2 ^ w.bits ≤ a.toNat + b.toNat + c.toNat) := rfl

/-- R13: the ones complement of a value that fits the width. -/
theorem complement_toNat (w : Width) {b : Word} (h : b.toNat < 2 ^ w.bits) :
    (complement w b).toNat = 2 ^ w.bits - 1 - b.toNat := by
  cases w
  · have h8 : b = word (lo b) 0 := by
      apply BitVec.eq_of_toNat_eq
      have h256 : b.toNat < 256 := h
      rw [word_toNat, lo_toNat, Nat.mod_eq_of_lt h256]
      rfl
    rw [h8]
    generalize lo b = v
    revert v
    decide
  · have h1 : BitVec.ofNat 16 (maskOf .w16) = BitVec.allOnes 16 := by decide
    rw [complement, h1, BitVec.xor_allOnes, BitVec.toNat_not]
    rfl

/-- R13: the carry of the binary difference is "no borrow". -/
theorem subBin_carry (w : Width) {a b : Word} (c : Bool) (hb : b.toNat < 2 ^ w.bits) :
    (subBin w a b c).carry = decide (b.toNat + (1 - c.toNat) ≤ a.toNat) := by
  rw [subBin, addBin_carry, complement_toNat w hb]
  have := c.toNat_le
  simp only [decide_eq_decide]
  omega

end Sys2Proof.Machine
end

