-- ==== Sys2Proof/Laws/Ops.lean ====
section
/-! SUPPORT. What the shared operations over registers and the stack do, said once each: the push and the pull of one byte,
of two and three, of a value at a width; taking a software interrupt and returning from one. -/

namespace Sys2Proof.Machine

/-! ## Equality of states -/

/-- Two states are equal when their twelve items are. -/
theorem state_eq {s t : State} (c : s.c = t.c) (x : s.x = t.x) (y : s.y = t.y) (sp : s.sp = t.sp) (d : s.d = t.d)
    (dbr : s.dbr = t.dbr) (pbr : s.pbr = t.pbr) (pc : s.pc = t.pc) (p : s.p = t.p) (e : s.e = t.e) (mem : s.mem = t.mem)
    (cyc : s.cyc = t.cyc) : s = t := by
  cases s
  cases t
  simp_all

/-! ## The stack pointer -/

/-- R34: `SetS` as an equation on the stack pointer alone. -/
theorem setS_eq (s : State) (v : Word) : s.setS v = { s with sp := if s.e then pageOne v else v } := rfl

/-- R25, R34: in emulation mode the stack pointer stays in page 0x01. -/
theorem setS_inPage (s : State) (v : Word) (h : s.e = true) : hi (s.setS v).sp = 0x01 := by
  simp [h, pageOne]

theorem pageOne_of_inPage {v : Word} (h : hi v = 0x01) : pageOne v = v := by
  rw [pageOne, ← h, word_lo_hi]

/-! ## Push -/

/-- R68: all that a push of one byte does. -/
theorem push8_eq (s : State) (v : Byte) :
    s.push8 v = { s with
      sp := if s.e then pageOne (s.sp - 1) else s.sp - 1
      mem := memWrite s.mem (addr 0x00 s.sp).toNat v } := rfl

/-- R68: the byte pushed lies at the stack pointer before the push. -/
theorem readMem_push8_same (s : State) (v : Byte) : (s.push8 v).readMem (addr 0x00 s.sp) = v :=
  readMem_writeMem_same s (addr 0x00 s.sp) v

/-- R68: a push changes no other byte. -/
theorem readMem_push8_other (s : State) (v : Byte) {a : Addr} (h : a ≠ addr 0x00 s.sp) :
    (s.push8 v).readMem a = s.readMem a := readMem_writeMem_other s v h

/-- R68: a push of two bytes is two pushes, the high byte first. -/
theorem push16_eq (s : State) (v : Word) : s.push16 v = (s.push8 (hi v)).push8 (lo v) := rfl

/-- R68: a push of three bytes is three pushes, the bank byte first. -/
theorem push24_eq (s : State) (v : Addr) :
    s.push24 v = ((s.push8 (bankOf v)).push8 (hi (offOf v))).push8 (lo (offOf v)) := rfl

/-- R290: a push at a width changes nothing but the stack pointer and memory. -/
theorem pushW_frame (s : State) (w : Width) (v : Word) :
    s.pushW w v = { s with sp := (s.pushW w v).sp, mem := (s.pushW w v).mem } := by
  cases w <;> rfl

/-! ## Pull -/

/-- R69: all that a pull of one byte does: the stack pointer moves up, and the byte there is the answer. -/
theorem pull8_eq (s : State) :
    s.pull8 = (s.readMem (addr 0x00 s.pop8.sp), { s with sp := if s.e then pageOne (s.sp + 1) else s.sp + 1 }) := rfl

/-- R69: two pulls, the low byte first. -/
theorem pull16_eq (s : State) : s.pull16 = (word s.pull8.1 s.pull8.2.pull8.1, s.pull8.2.pull8.2) := rfl

/-- R69: three pulls: low byte, high byte, bank byte. -/
theorem pull24_eq (s : State) :
    s.pull24 = (addr s.pull16.2.pull8.1 s.pull16.1, s.pull16.2.pull8.2) := rfl

/-- R290: a pull at a width changes nothing but the stack pointer. -/
theorem pullW_frame (s : State) (w : Width) : (s.pullW w).2 = { s with sp := (s.pullW w).2.sp } := by
  cases w <;> rfl

/-- R68, R69: the byte pulled right after a push is the byte pushed, and the stack pointer is back, when the stack pointer
met the invariant of R25. -/
theorem pull8_push8 (s : State) (v : Byte) (h : s.e = true → hi s.sp = 0x01) :
    (s.push8 v).pull8 = (v, { s with mem := (s.push8 v).mem }) := by
  have hsp : (s.push8 v).pop8.sp = s.sp := by
    by_cases he : s.e = true
    · have h1 : pageOne (pageOne (s.sp - 1) + 1) = pageOne s.sp := by
        simp only [pageOne]
        congr 1
        apply BitVec.eq_of_toNat_eq
        simp only [lo_toNat, BitVec.toNat_add, BitVec.toNat_sub, word_toNat]
        have := s.sp.isLt
        simp
        omega
      refine (if_pos he).trans ?_
      rw [show (s.push8 v).sp = pageOne (s.sp - 1) from if_pos he, h1, pageOne_of_inPage (h he)]
    · refine (if_neg he).trans ?_
      rw [show (s.push8 v).sp = s.sp - 1 from if_neg he]
      exact BitVec.sub_add_cancel s.sp 1
  refine Prod.ext ?_ (state_eq rfl rfl rfl hsp rfl rfl rfl rfl rfl rfl rfl rfl)
  show (s.push8 v).readMem (addr 0x00 (s.push8 v).pop8.sp) = v
  rw [hsp, readMem_push8_same]

/-! ## Writing the status byte and the emulation bit -/

/-- R33: all that `SetP` does. -/
theorem setP_eq (s : State) (v : Byte) :
    s.setP v = { s with
      p := forceWidths s.e v
      sp := if s.e then pageOne s.sp else s.sp
      x := if (forceWidths s.e v).getLsbD 4 then word (lo s.x) 0x00 else s.x
      y := if (forceWidths s.e v).getLsbD 4 then word (lo s.y) 0x00 else s.y } := rfl

/-- R37: all that `SetE` does. -/
theorem setE_eq (s : State) (b : Bool) :
    s.setE b = { s with
      e := b
      p := forceWidths b s.p
      sp := if b then pageOne s.sp else s.sp
      x := if (forceWidths b s.p).getLsbD 4 then word (lo s.x) 0x00 else s.x
      y := if (forceWidths b s.p).getLsbD 4 then word (lo s.y) 0x00 else s.y } := rfl

/-- R32: the forced status byte has `m` and `x` set in emulation mode. -/
theorem forceWidths_widths (p : Byte) :
    (forceWidths true p).getLsbD 5 = true ∧ (forceWidths true p).getLsbD 4 = true := by
  simp [forceWidths, maskM, maskX]

/-! ## Traps -/

/-- R387: a software interrupt changes nothing but the stack, `P`, `PBR` and `PC`; `i` is set and `d` cleared. -/
theorem takeTrap_frame (s : State) (vecN vecE : Addr) (ret : Word) :
    s.takeTrap vecN vecE ret = { s with
      sp := (s.takeTrap vecN vecE ret).sp
      mem := (s.takeTrap vecN vecE ret).mem
      p := putFlag (putFlag s.p maskI true) maskD false
      pbr := 0x00
      pc := (s.takeTrap vecN vecE ret).pc } := by
  apply state_eq <;> by_cases h : s.e = true <;> simp [State.takeTrap, State.push16, h]

/-- R389: the return from a software interrupt writes `P`, `X`, `Y`, `S`, `PC` and, in native mode, `PBR`. -/
theorem returnFromTrap_frame (s : State) :
    s.returnFromTrap = { s with
      p := s.returnFromTrap.p
      x := s.returnFromTrap.x
      y := s.returnFromTrap.y
      sp := s.returnFromTrap.sp
      pc := s.returnFromTrap.pc
      pbr := if s.e then s.pbr else s.returnFromTrap.pbr } := by
  apply state_eq <;> by_cases h : s.e = true <;> simp [State.returnFromTrap, State.pull16, State.pull8, h]

end Sys2Proof.Machine
end

