-- ==== Sys2Proof/Laws/Operands.lean ====
section
/-! SUPPORT. What reading and writing an operand location does, said once (R41, R42), and how an instruction completes. -/

namespace Sys2Proof.Machine

/-! ## Reading -/

/-- A location reads the same past the instruction. -/
@[simp] theorem locRead_advance (s : State) (n : Nat) (loc : Loc) (w : Width) :
    (s.advance n).locRead loc w = s.locRead loc w := by
  cases loc <;> cases w <;> rfl

@[simp] theorem readA_advance (s : State) (n : Nat) (w : Width) : (s.advance n).readA w = s.readA w := rfl

@[simp] theorem wM_advance (s : State) (n : Nat) : (s.advance n).wM = s.wM := rfl

@[simp] theorem wX_advance (s : State) (n : Nat) : (s.advance n).wX = s.wX := rfl

/-- R41: what is read fits the width. -/
theorem locRead_lt (s : State) (loc : Loc) (w : Width) : (s.locRead loc w).toNat < 2 ^ w.bits := by
  cases w
  · cases loc with
    | memBank bank off =>
      have h := (s.readMem (addr bank off)).isLt
      simp only [State.locRead, State.readBank, Width.bytes, bankAddrs, readBytes_one, word_toNat, Width.bits]
      simp
      omega
    | memLong a =>
      have h := (s.readMem a).isLt
      simp only [State.locRead, State.readLinear, Width.bytes, linearAddrs, readBytes_one, word_toNat, Width.bits]
      simp
      omega
    | imm v =>
      rw [State.locRead, truncTo_toNat]
      exact Nat.mod_lt _ (by decide)
    | regA =>
      rw [State.locRead, State.readA, truncTo_toNat]
      exact Nat.mod_lt _ (by decide)
  · exact BitVec.isLt _

/-! ## Writing -/

/-- R42: a write to an immediate is the only one that is refused. -/
theorem locWrite_isOk (s : State) {loc : Loc} (w : Width) (v : Word) (h : loc.isImm = false) :
    ∃ t, s.locWrite loc w v = .ok t := by
  cases loc <;> first | exact ⟨_, rfl⟩ | cases h

/-- R42: a write to a location changes `C` (the accumulator) or memory (the bytes of the location), nothing else. -/
theorem locWrite_frame {s t : State} {loc : Loc} {w : Width} {v : Word} (h : s.locWrite loc w v = .ok t) :
    t = { s with c := t.c, mem := t.mem } ∧ (loc ≠ .regA → t.c = s.c) ∧
      ∀ a, a ∉ loc.addrs w → t.readMem a = s.readMem a := by
  cases loc <;> simp only [State.locWrite, Except.ok.injEq, reduceCtorEq] at h
  · subst h
    refine ⟨?_, fun _ => ?_, fun a ha => readMem_writeBytes_other s _ ha⟩ <;>
      simp only [State.writeBank] <;> rw [writeBytes_eq]
  · subst h
    refine ⟨?_, fun _ => ?_, fun a ha => readMem_writeBytes_other s _ ha⟩ <;>
      simp only [State.writeLinear] <;> rw [writeBytes_eq]
  · subst h
    exact ⟨rfl, fun hne => absurd rfl hne, fun _ _ => rfl⟩

/-- R42: a write to the accumulator is `SetA`. -/
theorem locWrite_regA (s : State) (w : Width) (v : Word) : s.locWrite .regA w v = .ok (s.setA w v) := rfl

/-- R40: the addresses of a location, written out. -/
theorem memBank_addrs (bank : Byte) (off : Word) (w : Width) :
    (Loc.memBank bank off).addrs w = match w with
      | .w8 => [addr bank off]
      | .w16 => [addr bank off, addr bank (off + 1)] := by
  cases w <;> rfl

/-- R40: the addresses of a linear location, written out. -/
theorem memLong_addrs (a : Addr) (w : Width) :
    (Loc.memLong a).addrs w = match w with
      | .w8 => [a]
      | .w16 => [a, a + 1] := by
  cases w <;> rfl

/-- The addresses of a location are all different. -/
theorem addrs_nodup (loc : Loc) (w : Width) : (loc.addrs w).Nodup := by
  cases loc with
  | memBank bank off =>
    cases w
    · simp [memBank_addrs]
    · have h : off ≠ off + 1 := fun h => by simpa using congrArg (· - off) h
      simp [memBank_addrs, addr_inj]
  | memLong a =>
    cases w
    · simp [memLong_addrs]
    · simp [memLong_addrs]
  | imm v => simp [Loc.addrs]
  | regA => simp [Loc.addrs]

/-- R42, R41: a location that is memory reads, after a write, as the value written at the width. -/
theorem locRead_locWrite {s t : State} {loc : Loc} {w : Width} {v : Word} (h : s.locWrite loc w v = .ok t) :
    t.locRead loc w = truncTo w v := by
  have key (as : List Addr) (hn : as.Nodup) (hl : as.length = w.bytes) :
      BitVec.ofNat 16 ((s.writeBytes as v.toNat).readBytes as) = truncTo w v := by
    rw [readBytes_writeBytes s _ hn, hl]
    apply BitVec.eq_of_toNat_eq
    rw [truncTo_toNat]
    have := v.isLt
    cases w <;> simp only [Width.bits, Width.bytes, BitVec.toNat_ofNat] <;> omega
  cases loc with
  | memBank bank off =>
    cases h
    exact key _ (addrs_nodup (.memBank bank off) w) (bankAddrs_length _ _ _)
  | memLong a =>
    cases h
    exact key _ (addrs_nodup (.memLong a) w) (linearAddrs_length _ _)
  | imm _ => cases h
  | regA =>
    cases h
    cases w <;> simp [State.locRead, State.readA, State.setA, truncTo]

/-! ## Completing -/

/-- R364, R368: an instruction that completes, once its cycles are in `CYC`. -/
theorem chargeCycles_complete (op : Byte) (adj extra : Int) (s : State) :
    chargeCycles (complete op adj extra s) = .next { s with cyc := s.cyc + BitVec.ofInt 64 (baseCycles op + adj + extra) } := rfl

/-- R368: what is charged has a next state exactly when the instruction completed. -/
theorem chargeCycles_next {r : Counted} {t : State} : chargeCycles r = .next t ↔ ∃ u n, r = .next (u, n) ∧ u.addCycles n = t := by
  rcases r with ⟨u, n⟩ | e | e <;> simp [chargeCycles]

theorem completeWrite_ok (op : Byte) (adj extra : Int) (s : State) (P : Parameters) :
    completeWrite op adj extra (.ok s) P = complete op adj extra s P := rfl

/-- An operator that writes its location completes exactly when the write is not refused. -/
theorem completeWrite_next {op : Byte} {adj extra : Int} {r : Except Refusal State} {t : State × Int} {P : Parameters} :
    completeWrite op adj extra r P = .next t ↔ ∃ u, r = .ok u ∧ complete op adj extra u P = .next t := by
  cases r <;> simp [completeWrite]

end Sys2Proof.Machine
end

