-- ==== Sys2Proof/Laws/Dispatch.lean ====
section
/-! SUPPORT. The dispatch of the operators that take a data location, said once for each mnemonic: an instruction of the mnemonic
has a location, and executing it is the operator in that location, whichever of its modes it has. -/

namespace Sys2Proof.Machine

theorem exec_adc {i : Instr} (h : i.mnemonic = .adc) (s : State) :
    ∃ f, modeLoc .adc i.operand s = some f ∧ f.len = i.length ∧ exec i s = chargeCycles (adcWith i.opcode f s) := by
  cases i <;> first
    | (cases h; done)
    | exact ⟨_, rfl, rfl, rfl⟩

theorem exec_sbc {i : Instr} (h : i.mnemonic = .sbc) (s : State) :
    ∃ f, modeLoc .sbc i.operand s = some f ∧ f.len = i.length ∧ exec i s = chargeCycles (sbcWith i.opcode f s) := by
  cases i <;> first
    | (cases h; done)
    | exact ⟨_, rfl, rfl, rfl⟩

theorem exec_and {i : Instr} (h : i.mnemonic = .and) (s : State) :
    ∃ f, modeLoc .and i.operand s = some f ∧ f.len = i.length ∧ exec i s = chargeCycles (andWith i.opcode f s) := by
  cases i <;> first
    | (cases h; done)
    | exact ⟨_, rfl, rfl, rfl⟩

theorem exec_ora {i : Instr} (h : i.mnemonic = .ora) (s : State) :
    ∃ f, modeLoc .ora i.operand s = some f ∧ f.len = i.length ∧ exec i s = chargeCycles (oraWith i.opcode f s) := by
  cases i <;> first
    | (cases h; done)
    | exact ⟨_, rfl, rfl, rfl⟩

theorem exec_eor {i : Instr} (h : i.mnemonic = .eor) (s : State) :
    ∃ f, modeLoc .eor i.operand s = some f ∧ f.len = i.length ∧ exec i s = chargeCycles (eorWith i.opcode f s) := by
  cases i <;> first
    | (cases h; done)
    | exact ⟨_, rfl, rfl, rfl⟩

theorem exec_bit {i : Instr} (h : i.mnemonic = .bit) (s : State) :
    ∃ f, modeLoc .bit i.operand s = some f ∧ f.len = i.length ∧ exec i s = chargeCycles (bitWith i.opcode f s) := by
  cases i <;> first
    | (cases h; done)
    | exact ⟨_, rfl, rfl, rfl⟩

theorem exec_cmp {i : Instr} (h : i.mnemonic = .cmp) (s : State) :
    ∃ f, modeLoc .cmp i.operand s = some f ∧ f.len = i.length ∧ exec i s = chargeCycles (cmpWith i.opcode f s) := by
  cases i <;> first
    | (cases h; done)
    | exact ⟨_, rfl, rfl, rfl⟩

theorem exec_cpx {i : Instr} (h : i.mnemonic = .cpx) (s : State) :
    ∃ f, modeLoc .cpx i.operand s = some f ∧ f.len = i.length ∧ exec i s = chargeCycles (cpxWith i.opcode f s) := by
  cases i <;> first
    | (cases h; done)
    | exact ⟨_, rfl, rfl, rfl⟩

theorem exec_cpy {i : Instr} (h : i.mnemonic = .cpy) (s : State) :
    ∃ f, modeLoc .cpy i.operand s = some f ∧ f.len = i.length ∧ exec i s = chargeCycles (cpyWith i.opcode f s) := by
  cases i <;> first
    | (cases h; done)
    | exact ⟨_, rfl, rfl, rfl⟩

theorem exec_lda {i : Instr} (h : i.mnemonic = .lda) (s : State) :
    ∃ f, modeLoc .lda i.operand s = some f ∧ f.len = i.length ∧ exec i s = chargeCycles (ldaWith i.opcode f s) := by
  cases i <;> first
    | (cases h; done)
    | exact ⟨_, rfl, rfl, rfl⟩

theorem exec_ldx {i : Instr} (h : i.mnemonic = .ldx) (s : State) :
    ∃ f, modeLoc .ldx i.operand s = some f ∧ f.len = i.length ∧ exec i s = chargeCycles (ldxWith i.opcode f s) := by
  cases i <;> first
    | (cases h; done)
    | exact ⟨_, rfl, rfl, rfl⟩

theorem exec_ldy {i : Instr} (h : i.mnemonic = .ldy) (s : State) :
    ∃ f, modeLoc .ldy i.operand s = some f ∧ f.len = i.length ∧ exec i s = chargeCycles (ldyWith i.opcode f s) := by
  cases i <;> first
    | (cases h; done)
    | exact ⟨_, rfl, rfl, rfl⟩

theorem exec_sta {i : Instr} (h : i.mnemonic = .sta) (s : State) :
    ∃ f, modeLoc .sta i.operand s = some f ∧ f.len = i.length ∧ exec i s = chargeCycles (staWith i.opcode f s) := by
  cases i <;> first
    | (cases h; done)
    | exact ⟨_, rfl, rfl, rfl⟩

theorem exec_stx {i : Instr} (h : i.mnemonic = .stx) (s : State) :
    ∃ f, modeLoc .stx i.operand s = some f ∧ f.len = i.length ∧ exec i s = chargeCycles (stxWith i.opcode f s) := by
  cases i <;> first
    | (cases h; done)
    | exact ⟨_, rfl, rfl, rfl⟩

theorem exec_sty {i : Instr} (h : i.mnemonic = .sty) (s : State) :
    ∃ f, modeLoc .sty i.operand s = some f ∧ f.len = i.length ∧ exec i s = chargeCycles (styWith i.opcode f s) := by
  cases i <;> first
    | (cases h; done)
    | exact ⟨_, rfl, rfl, rfl⟩

theorem exec_stz {i : Instr} (h : i.mnemonic = .stz) (s : State) :
    ∃ f, modeLoc .stz i.operand s = some f ∧ f.len = i.length ∧ exec i s = chargeCycles (stzWith i.opcode f s) := by
  cases i <;> first
    | (cases h; done)
    | exact ⟨_, rfl, rfl, rfl⟩

theorem exec_asl {i : Instr} (h : i.mnemonic = .asl) (s : State) :
    ∃ f, modeLoc .asl i.operand s = some f ∧ f.len = i.length ∧ exec i s = chargeCycles (aslWith i.opcode f s) := by
  cases i <;> first
    | (cases h; done)
    | exact ⟨_, rfl, rfl, rfl⟩

theorem exec_lsr {i : Instr} (h : i.mnemonic = .lsr) (s : State) :
    ∃ f, modeLoc .lsr i.operand s = some f ∧ f.len = i.length ∧ exec i s = chargeCycles (lsrWith i.opcode f s) := by
  cases i <;> first
    | (cases h; done)
    | exact ⟨_, rfl, rfl, rfl⟩

theorem exec_rol {i : Instr} (h : i.mnemonic = .rol) (s : State) :
    ∃ f, modeLoc .rol i.operand s = some f ∧ f.len = i.length ∧ exec i s = chargeCycles (rolWith i.opcode f s) := by
  cases i <;> first
    | (cases h; done)
    | exact ⟨_, rfl, rfl, rfl⟩

theorem exec_ror {i : Instr} (h : i.mnemonic = .ror) (s : State) :
    ∃ f, modeLoc .ror i.operand s = some f ∧ f.len = i.length ∧ exec i s = chargeCycles (rorWith i.opcode f s) := by
  cases i <;> first
    | (cases h; done)
    | exact ⟨_, rfl, rfl, rfl⟩

theorem exec_inc {i : Instr} (h : i.mnemonic = .inc) (s : State) :
    ∃ f, modeLoc .inc i.operand s = some f ∧ f.len = i.length ∧ exec i s = chargeCycles (incWith i.opcode f s) := by
  cases i <;> first
    | (cases h; done)
    | exact ⟨_, rfl, rfl, rfl⟩

theorem exec_dec {i : Instr} (h : i.mnemonic = .dec) (s : State) :
    ∃ f, modeLoc .dec i.operand s = some f ∧ f.len = i.length ∧ exec i s = chargeCycles (decWith i.opcode f s) := by
  cases i <;> first
    | (cases h; done)
    | exact ⟨_, rfl, rfl, rfl⟩

theorem exec_tsb {i : Instr} (h : i.mnemonic = .tsb) (s : State) :
    ∃ f, modeLoc .tsb i.operand s = some f ∧ f.len = i.length ∧ exec i s = chargeCycles (tsbWith i.opcode f s) := by
  cases i <;> first
    | (cases h; done)
    | exact ⟨_, rfl, rfl, rfl⟩

theorem exec_trb {i : Instr} (h : i.mnemonic = .trb) (s : State) :
    ∃ f, modeLoc .trb i.operand s = some f ∧ f.len = i.length ∧ exec i s = chargeCycles (trbWith i.opcode f s) := by
  cases i <;> first
    | (cases h; done)
    | exact ⟨_, rfl, rfl, rfl⟩

end Sys2Proof.Machine
end

