-- ==== Sys2Proof/Laws/Claims.lean ====
section
/-! SUPPORT. The model's operations in the words of the statements: addresses, pointers, values, flags and penalty cycles as the
natural numbers of `Sys2Proof.Claims`. -/

namespace Sys2Proof.Machine

open Sys2Proof.Claims

/-! ## Addresses and pointers -/

theorem lo_eq_zero (v : Word) : lo v = 0 ↔ v.toNat % 0x100 = 0 := by
  rw [← BitVec.toNat_inj, lo_toNat]; rfl

theorem dpAddr_eq (s : State) (t : Nat) : dpAddr s t = BitVec.ofNat 16 (dpOff s t) := by
  apply BitVec.eq_of_toNat_eq
  unfold dpAddr dpAddrWith dpOff
  simp only [Parameters.std, Params.dpEWrap, Bool.true_and, lo_eq_zero, Bool.and_eq_true, decide_eq_true_eq]
  have := s.d.isLt
  split
  · simp only [word_toNat, hi_toNat, BitVec.toNat_ofNat]
    omega
  · simp

theorem dpAddrN_eq (s : State) (t : Nat) : dpAddrN s t = BitVec.ofNat 16 ((s.d.toNat + t) % 0x10000) := by
  apply BitVec.eq_of_toNat_eq; simp [dpAddrN]

theorem ptrDp16_toNat (s : State) (t : Nat) : (ptrDp16 s t).toNat = dpPtr s t := by
  simp [ptrDp16, dpPtr, word_toNat, byteAt, dpAddr_eq]

theorem ptrDpN16_toNat (s : State) (t : Nat) : (ptrDpN16 s t).toNat = dpPtrN s t := by
  simp [ptrDpN16, dpPtrN, word_toNat, byteAt, dpAddrN_eq, Nat.add_assoc]

theorem ptrDpN24_toNat (s : State) (t : Nat) : (ptrDpN24 s t).toNat = dpPtrLong s t := by
  simp [ptrDpN24, dpPtrLong, addr_toNat, byteAt, dpAddrN_eq, Nat.add_assoc, ptrDpN16_toNat]
  omega

theorem pageCrossed_eq (a b : Word) : pageCrossed a b = decide (a.toNat / 0x100 ≠ b.toNat / 0x100) := by
  rw [pageCrossed, ← hi_toNat, ← hi_toNat, bne]
  by_cases h : hi a = hi b
  · simp [h]
  · simp [h, BitVec.toNat_inj]

theorem branchNext_eq (s : State) : (s.pc + 2).toNat = branchNext s := by simp [branchNext]

theorem branchTarget_eq (s : State) (disp : Byte) : (s.pc + 2 + disp.signExtend 16).toNat = branchTarget s disp := by
  unfold branchTarget
  rw [BitVec.toNat_add, branchNext_eq, BitVec.toNat_signExtend]
  have := disp.isLt
  have : branchNext s < 65536 := Nat.mod_lt _ (by decide)
  simp only [BitVec.toInt_eq_msb_cond]
  split <;> simp <;> omega

theorem takenPen_eq (s : State) (disp : Byte) : takenPen s (modeRel8 disp s) = takenCycles s disp := by
  unfold takenPen takenCycles
  have hn : (s.advance (modeRel8 disp s).len).pc = s.pc + 2 := rfl
  have ht : (modeRel8 disp s).operand = s.pc + 2 + disp.signExtend 16 := rfl
  rw [pageCrossed_eq, hn, ht, branchNext_eq, branchTarget_eq]
  simp

/-! ## Values and flags -/

theorem size_eq (f : Bool) : size f = 2 ^ (Width.ofFlag f).bits := by cases f <;> rfl

theorem top_eq (f : Bool) : top f = (Width.ofFlag f).bits - 1 := by cases f <;> rfl

theorem acc_eq (s : State) : (s.readA s.wM).toNat = acc s := by
  rw [State.readA, truncTo_toNat, acc, size_eq]; rfl

theorem acc_lt (s : State) : acc s < size s.flagM := Nat.mod_lt _ (by cases s.flagM <;> decide)

theorem value_eq (s : State) (loc : Loc) (f : Bool) : (s.locRead loc (.ofFlag f)).toNat = value s loc f := by
  cases loc with
  | memBank bank off =>
    cases f
    · simp only [State.locRead, Width.ofFlag, Bool.false_eq_true, if_false, Width.bytes, readBank_two, word_toNat, value]
    · simp only [State.locRead, State.readBank, Width.ofFlag, if_true, Width.bytes, bankAddrs, readBytes_one, word_toNat,
        value]
      rfl
  | memLong a =>
    cases f
    · simp only [State.locRead, Width.ofFlag, Bool.false_eq_true, if_false, Width.bytes, readLinear_two, word_toNat, value]
    · simp only [State.locRead, State.readLinear, Width.ofFlag, if_true, Width.bytes, linearAddrs, readBytes_one,
        word_toNat, value]
      rfl
  | imm v => rw [State.locRead, truncTo_toNat, value, size_eq]
  | regA => rw [State.locRead, State.readA, truncTo_toNat, value, size_eq]

theorem value_lt (s : State) (loc : Loc) (f : Bool) : value s loc f < size f := by
  rw [← value_eq, size_eq]
  exact locRead_lt s loc _

theorem bytesOf_eq (loc : Loc) (f : Bool) : bytesOf loc f = loc.addrs (.ofFlag f) := by
  cases loc <;> cases f <;> rfl

/-- R36: the accumulator after `SetA` at its width. -/
theorem setA_putAcc (s : State) (r : Word) : (s.setA s.wM r).c.toNat = putAcc s (r.toNat % size s.flagM) := by
  unfold State.setA State.wM Width.ofFlag putAcc size
  cases s.flagM <;> simp [word_toNat, lo_toNat, hi_toNat] <;> omega

theorem testBit_mod_size (f : Bool) (v : Nat) : (v % size f).testBit (top f) = v.testBit (top f) := by
  cases f
  · exact (Nat.testBit_mod_two_pow v 16 15).trans (by simp [top])
  · exact (Nat.testBit_mod_two_pow v 8 7).trans (by simp [top])

/-- R11: n and z after `SetNZ`. -/
theorem setNZ_sets (s : State) (f : Bool) (r : Word) : SetsNZ (s.setNZ (.ofFlag f) r) f (r.toNat % size f) := by
  refine ⟨?_, ?_⟩
  · rw [flagN_setNZ, testBit_mod_size, msbOf_eq_testBit, top_eq]
  · rw [flagZ_setNZ, size_eq, decide_eq_decide, truncTo_eq_zero]

/-- `SetsNZ` and `Keeps` speak of the status byte alone. -/
theorem SetsNZ.congr {s t : State} {f : Bool} {r : Nat} (h : SetsNZ s f r) (hp : t.p = s.p) : SetsNZ t f r := by
  unfold SetsNZ State.flagN State.flagZ at *
  rw [hp]
  exact h

/-! ## Penalty cycles -/

theorem dlPen_eq (s : State) : dlPen s = dlCycle s := by
  unfold dlPen dlCycle
  simp only [lo_eq_zero]

/-- R123: the penalty of an indexed mode, for an operator that only reads and for one that does not. -/
theorem pxPen_eq (op : Mnemonic) (mode : Params.PageMode) (s : State) {b x : Word} {c : Bool}
    (hc : c = decide (b.toNat / 0x100 ≠ (b.toNat + x.toNat) % 0x10000 / 0x100)) :
    pxPen op mode s b (b + x) =
      if op ∈ [.ora, .and, .eor, .adc, .lda, .cmp, .sbc, .bit, .ldx, .ldy] ∧ c = true then 1 else 0 := by
  unfold pxPen
  simp only [Parameters.std, Params.pagePenalty]
  rw [pageCrossed_eq, BitVec.toNat_add, ← hc]
  congr 1
  simp only [Params.pageReaders, Bool.and_eq_true, List.contains_iff_mem, and_comm]

/-- The operators that only read their operand, as R123 lists them. -/
def onlyReads : Mnemonic → Bool
  | .ora | .and | .eor | .adc | .lda | .cmp | .sbc | .bit | .ldx | .ldy => true
  | _ => false

theorem onlyReads_iff (op : Mnemonic) :
    onlyReads op = true ↔ op ∈ [.ora, .and, .eor, .adc, .lda, .cmp, .sbc, .bit, .ldx, .ldy] := by
  cases op <;> decide

/-- The penalty classes that a mode brings with it. -/
def modePens (op : Mnemonic) : Operand → List Pen
  | .acc => [.acc]
  | .immM8 _ | .immM16 _ => [.mi]
  | .immX8 _ | .immX16 _ => [.xi]
  | .dp _ | .dpx _ | .dpy _ | .idp _ | .idpx _ | .ildp _ | .ildpy _ => [.dl]
  | .idpy _ => .dl :: bif onlyReads op then [.px] else []
  | .absx _ | .absy _ => bif onlyReads op then [.px] else []
  | _ => []

/-- The penalty class of an operator on a data location that is no immediate. -/
def operatorPen : Mnemonic → Pen
  | .asl | .lsr | .rol | .ror | .inc | .dec | .tsb | .trb => .m2
  | .cpx | .cpy | .ldx | .ldy | .stx | .sty => .x1
  | _ => .m1

/-- Whether an operand is one of the immediates that a flag governs. -/
def isImmediate : Operand → Bool
  | .immM8 _ | .immM16 _ | .immX8 _ | .immX16 _ => true
  | _ => false

/-- The penalty classes of an operator in a mode. -/
def pensOf (op : Mnemonic) (o : Operand) : List Pen :=
  (bif isImmediate o then [] else [operatorPen op]) ++ modePens op o

/-- R365, R425: the column "pen" of the instructions with a data location, by operator and mode. -/
theorem penOf_eq (i : Instr) (s : State) (h : (modeLoc i.mnemonic i.operand s).isSome = true) (hp : i.mnemonic ≠ .pei) :
    penOf i.opcode = pensOf i.mnemonic i.operand := by
  cases i <;> first
    | (cases h; done)
    | exact absurd rfl hp
    | (dsimp only [Instr.opcode, Instr.row]; rfl)

theorem isImm_of_modeLoc {op : Mnemonic} {o : Operand} {s : State} {f : Formed Loc} (h : modeLoc op o s = some f) :
    f.operand.isImm = isImmediate o := by
  cases o <;> cases h <;> rfl

/-- R120, R121, R123: what a mode adds is the sum of what its classes add. -/
theorem adj_eq (i : Instr) (s : State) {f : Formed Loc} (h : modeLoc i.mnemonic i.operand s = some f) :
    f.adj = ((modePens i.mnemonic i.operand).map (charge i s)).sum := by
  have hx (c : Bool) : (if i.mnemonic ∈ [.ora, .and, .eor, .adc, .lda, .cmp, .sbc, .bit, .ldx, .ldy] ∧ c = true
      then 1 else 0 : Int) = if onlyReads i.mnemonic = true then (c.toNat : Int) else 0 := by
    simp only [← onlyReads_iff]
    cases onlyReads i.mnemonic <;> cases c <;> simp
  generalize ho : i.operand = o at h
  cases o <;> simp only [modeLoc, Option.some.injEq, reduceCtorEq] at h <;> subst h
  case idpy dd =>
    simp only [modeIdpy, modePens]
    rw [pxPen_eq _ _ s (c := indexCrosses (.idpy dd) s) (by simp [indexCrosses, ptrDp16_toNat]), hx, dlPen_eq]
    cases onlyReads i.mnemonic <;> simp [charge, ho]
  case absx aa =>
    simp only [modeAbsx, modePens]
    rw [pxPen_eq _ _ s (c := indexCrosses (.absx aa) s) rfl, hx]
    cases onlyReads i.mnemonic <;> simp [charge, ho]
  case absy aa =>
    simp only [modeAbsy, modePens]
    rw [pxPen_eq _ _ s (c := indexCrosses (.absy aa) s) rfl, hx]
    cases onlyReads i.mnemonic <;> simp [charge, ho]
  all_goals
    simp [modePens, charge, modeAcc, modeImmM8, modeImmM16, modeImmX8, modeImmX16, modeDp, modeDpx, modeDpy, modeIdp,
      modeIdpx, modeIldp, modeIldpy, modeSr, modeIsry, modeAbs, modeLong, modeLongx, widthPen, dlPen_eq]

/-- R425: the base counts of the model are the column "cyc". -/
theorem baseOf_eq (op : Byte) : baseOf op = baseCycles op := by
  revert op
  decide

/-- R364, R365: the cycle count of an instruction with a data location: its base, what its mode adds, and what its operator
adds to an operand that is no immediate. -/
theorem cycles_eq (i : Instr) (s : State) {f : Formed Loc} (h : modeLoc i.mnemonic i.operand s = some f)
    (hp : i.mnemonic ≠ .pei) :
    cycles i s = baseCycles i.opcode + f.adj + (bif f.operand.isImm then 0 else charge i s (operatorPen i.mnemonic)) := by
  rw [cycles, baseOf_eq, penOf_eq i s (by rw [h]; rfl) hp, pensOf, adj_eq i s h, isImm_of_modeLoc h]
  cases isImmediate i.operand <;> simp
  omega

end Sys2Proof.Machine
end

