-- ==== Sys2Proof/Laws/Decode.lean ====
section
/-! SUPPORT. Decoding is total on four bytes (R90, R97), so a step never refuses for want of an instruction. -/

namespace Sys2Proof

/-- R97: every byte value has a cell in the opcode matrix. -/
theorem entryOf_isSome (op : Byte) : (entryOf op).isSome = true := by
  revert op
  decide

/-- R90, R97: an opcode byte and three more bytes hold an instruction, under any flags. -/
theorem decode_four (m x : Bool) (op b1 b2 b3 : Byte) :
    ∃ i rest, decode m x [op, b1, b2, b3] = .ok (i, rest) := by
  obtain ⟨e, he⟩ := Option.isSome_iff_exists.mp (entryOf_isSome op)
  simp only [decode, he]
  cases e <;> first
    | exact ⟨_, _, rfl⟩
    | (cases m <;> exact ⟨_, _, rfl⟩)
    | (cases x <;> exact ⟨_, _, rfl⟩)

namespace Machine

/-- R94, R362: a state always fetches an instruction. -/
theorem fetchInstr_isOk (s : State) : ∃ i, s.fetchInstr = .ok i := by
  obtain ⟨i, rest, h⟩ := decode_four s.flagM s.flagX (s.fetch 0) (s.fetch 1) (s.fetch 2) (s.fetch 3)
  exact ⟨i, congrArg (Except.map Prod.fst) h⟩

/-- R360: a step is the failure of an unimplemented entry, or an instruction executed. -/
theorem step_eq (s : State) :
    (unimplementedEntry (s.fetch 0) = true ∧ step s = .fault (.unimplementedInstruction (s.fetch 0))) ∨
      (unimplementedEntry (s.fetch 0) = false ∧ ∃ i, s.fetchInstr = .ok i ∧ step s = exec i s) := by
  obtain ⟨i, hi⟩ := fetchInstr_isOk s
  unfold step
  cases h : unimplementedEntry (s.fetch 0)
  · exact .inr ⟨rfl, i, hi, by simp [hi]⟩
  · exact .inl ⟨rfl, by simp⟩

end Machine

end Sys2Proof
end

