-- ==== Sys2Proof/Laws/Parameters.lean ====
section
/-! SUPPORT. The parameters of R4: the defaults field by field, what the machine with parameters is at the defaults, where the
parameters of timing reach, and the memory of a launch state. -/

namespace Sys2Proof.Machine

/-! ## The defaults -/

@[simp] theorem Parameters.std_optable : Parameters.std.optable = .standard := rfl
@[simp] theorem Parameters.std_baseCycles : Parameters.std.baseCycles = Machine.baseCycles := rfl
@[simp] theorem Parameters.std_unimpl : Parameters.std.unimpl = [0xCB, 0xDB] := rfl
@[simp] theorem Parameters.std_dpEWrap : Parameters.std.dpEWrap = true := rfl
@[simp] theorem Parameters.std_indexCrossesBank : Parameters.std.indexCrossesBank = false := rfl
@[simp] theorem Parameters.std_pagePenalty : Parameters.std.pagePenalty = Params.pagePenalty := rfl
@[simp] theorem Parameters.std_bcdAdd : Parameters.std.bcdAdd = Machine.bcdAdd := rfl
@[simp] theorem Parameters.std_bcdSub : Parameters.std.bcdSub = Machine.bcdSub := rfl
@[simp] theorem Parameters.std_vecBrkN : Parameters.std.vecBrkN = 0x00FFE6 := rfl
@[simp] theorem Parameters.std_vecBrkE : Parameters.std.vecBrkE = 0x00FFFE := rfl
@[simp] theorem Parameters.std_vecCopN : Parameters.std.vecCopN = 0x00FFE4 := rfl
@[simp] theorem Parameters.std_vecCopE : Parameters.std.vecCopE = 0x00FFF4 := rfl
@[simp] theorem Parameters.std_vecReset : Parameters.std.vecReset = 0x00FFFC := rfl
@[simp] theorem Parameters.std_cycWidth : Parameters.std.cycWidth = 64 := rfl

/-- R345, R346: 0xCB and 0xDB are in every `UNIMPL`. -/
theorem Parameters.mem_unimpl {P : Parameters} {op : Byte} (h : op ∈ Params.unimpl) : op ∈ P.unimpl :=
  List.mem_append_left _ h

/-! ## The dispatch table -/

/-- A cell of the decoder's matrix whose row `OPTABLE` says as well: the mnemonic and the operand of what it decodes to are those
of the cell of its sample. -/
def EntrySound (op : Byte) (en : Entry) : Prop :=
  ∀ (m x : Bool) (b1 b2 b3 : Byte) (i : Instr) (rest : List Byte), decodeEntry m x op en [b1, b2, b3] = .ok (i, rest) →
    i.opcode = op ∧ i.mnemonic = (cellOf (sampleOf en)).mnemonic ∧
      i.operand = (cellOf (sampleOf en)).mode.operand m x b1 b2 b3

theorem entry_sound (op : Byte) (en : Entry) (h : entryOf op = some en) : EntrySound op en := by
  obtain ⟨n, hn, rfl⟩ : ∃ n, n < 256 ∧ op = BitVec.ofNat 8 n := ⟨op.toNat, op.isLt, by simp⟩
  interval_cases n <;>
  · obtain rfl := Option.some.inj (show some _ = some en from h)
    intro m x b1 b2 b3 i rest hd
    cases m <;> cases x <;> (cases hd; exact ⟨rfl, rfl, rfl⟩)

/-- R94: at the default all three tables hold the matrix of R100. -/
theorem select_standard (m x : Bool) (op : Byte) : OpTable.standard.select m x op = standardCell op := by
  unfold OpTable.select
  split
  · rfl
  · split <;> rfl

/-! ## The machine at the defaults -/

/-- An entry of R100 is executed as `exec` executes its instruction. -/
theorem chargeCycles_execEntry_std (i : Instr) (s : State) :
    chargeCycles (execEntry .std i.opcode i.mnemonic i.operand s) = exec i s := by
  cases i <;> first
    | rfl
    | simp [execEntry, Instr.opcode, Instr.mnemonic, Instr.operand, Instr.row, applied, locOf, modeLoc, fixedImm, maskOfLoc,
        State.locRead, truncTo, exec, execRep, execSep, modeImm8]

/-- R123, R364: what a mode adds to the count is all that the parameters of timing reach in it. -/
theorem modeLoc_timing {P Q : Parameters} (hw : P.dpEWrap = Q.dpEWrap) (hc : P.indexCrossesBank = Q.indexCrossesBank)
    (op : Mnemonic) (o : Operand) (s : State) :
    (modeLoc op o s P).map (fun f => (f.len, f.operand)) = (modeLoc op o s Q).map (fun f => (f.len, f.operand)) := by
  have hd (t : Nat) : dpAddr s t P = dpAddr s t Q := by simp only [dpAddr, hw]
  have hp (t : Nat) : ptrDp16 s t P = ptrDp16 s t Q := by simp only [ptrDp16, hd]
  have hl (bank : Byte) (base idx : Word) : dataLoc bank base idx P = dataLoc bank base idx Q := by
    simp only [dataLoc, hc]
  cases o <;> simp [modeLoc, modeDp, modeDpx, modeDpy, modeIdp, modeIdpx, modeIdpy, modeIsry, modeAbs, modeAbsx,
    modeAbsy, hd, hp, hl]

/-! ## The state with a cycle accumulator of any width -/

@[simp] theorem view_withCyc (t : State) {w : Nat} (cyc : BitVec w) : (t.withCyc cyc).view = { t with cyc := cyc.setWidth 64 } := rfl

@[simp] theorem view_atWidth (t : State) : t.atWidth.view = t := by
  cases t
  simp [State.atWidth, StateAt.view, State.withCyc]

@[simp] theorem withCyc_cyc (t : State) {w : Nat} (cyc : BitVec w) : (t.withCyc cyc).cyc = cyc := rfl

/-- R368: `CYC` after a step, at any width: the old total and the count returned, modulo `2^CYC_WIDTH`. -/
theorem stepWith_cyc {P : Parameters} {s t : StateAt P.cycWidth} {n : Int} (h : stepWith P s = .next (t, n)) :
    t.cyc = s.cyc + BitVec.ofInt P.cycWidth n := by
  simp only [stepWith] at h
  split at h
  · cases h
  · split at h <;> cases h
    rfl

/-! ## The memory of a launch state -/

theorem launchMemory_wf (cells : List (Addr × Byte)) : (launchMemory cells).wf = true := by
  induction cells with
  | nil => rfl
  | cons cell rest ih => exact wf_memWrite cell.1 cell.2 ih

/-- Of two bytes given for one address the first counts. -/
theorem memRead_launchMemory_cons (a : Addr) (v : Byte) (rest : List (Addr × Byte)) (b : Nat) :
    memRead (launchMemory ((a, v) :: rest)) b = if b = a.toNat then v else memRead (launchMemory rest) b :=
  memRead_memWrite _ _ _ _

end Sys2Proof.Machine
end

