-- ==== Sys2Proof/Laws/Cycles.lean ====
section
/-! SUPPORT. No operator and no mode touches `CYC` (R45, R368): an entry executed leaves it, so the step alone adds the count;
and the step of the machine with parameters at the defaults is the step. -/

namespace Sys2Proof.Machine

/-! ## The shared operations -/

theorem locWrite_cyc {s t : State} {loc : Loc} {w : Width} {v : Word} (h : s.locWrite loc w v = .ok t) : t.cyc = s.cyc := by
  rw [(locWrite_frame h).1]

@[simp] theorem push16_cyc (s : State) (v : Word) : (s.push16 v).cyc = s.cyc := by simp [State.push16]

@[simp] theorem pushW_cyc (s : State) (w : Width) (v : Word) : (s.pushW w v).cyc = s.cyc := by cases w <;> simp [State.pushW]

@[simp] theorem pull8_cyc (s : State) : s.pull8.2.cyc = s.cyc := rfl

@[simp] theorem pull16_cyc (s : State) : s.pull16.2.cyc = s.cyc := rfl

@[simp] theorem pull24_cyc (s : State) : s.pull24.2.cyc = s.cyc := rfl

@[simp] theorem pullW_cyc (s : State) (w : Width) : (s.pullW w).2.cyc = s.cyc := by cases w <;> simp [State.pullW]

@[simp] theorem takeTrap_cyc (s : State) (vecN vecE : Addr) (ret : Word) : (s.takeTrap vecN vecE ret).cyc = s.cyc := by
  unfold State.takeTrap
  simp
  split <;> simp

@[simp] theorem returnFromTrap_cyc (s : State) : s.returnFromTrap.cyc = s.cyc := by
  unfold State.returnFromTrap
  split <;> simp

/-! ## The ways an entry completes -/

variable {P : Parameters} {op : Byte} {s t : State} {n : Int}

theorem complete_cyc {adj extra : Int} {u : State} (h : complete op adj extra u P = .next (t, n)) (hu : u.cyc = s.cyc) :
    t.cyc = s.cyc := by
  cases h
  exact hu

theorem stacked_cyc {f : Formed Unit} {extra : Int} {g : State → State} (h : stacked op f extra g s P = .next (t, n))
    (hg : ∀ u, (g u).cyc = u.cyc) : t.cyc = s.cyc :=
  complete_cyc h (hg _)

theorem opWrite_cyc {adj extra : Int} {r : Except Refusal State} (h : completeWrite op adj extra r P = .next (t, n))
    (hr : ∀ u, r = .ok u → u.cyc = s.cyc) : t.cyc = s.cyc := by
  obtain ⟨u, hu, h⟩ := completeWrite_next.mp h
  exact complete_cyc h (hr u hu)

theorem write_cyc {adj extra : Int} {u : State} {loc : Loc} {w : Width} {v : Word} {f : State → State}
    (h : completeWrite op adj extra ((u.locWrite loc w v).map f) P = .next (t, n)) (hf : ∀ u, (f u).cyc = u.cyc)
    (hu : u.cyc = s.cyc) : t.cyc = s.cyc := by
  refine opWrite_cyc h fun r hr => ?_
  cases hl : u.locWrite loc w v with
  | error e => rw [hl] at hr; cases hr
  | ok q => rw [hl] at hr; cases hr; rw [hf, locWrite_cyc hl, hu]

theorem branch_cyc {b : Bool} {f : Formed Word} (h : branchWith op b f s P = .next (t, n)) : t.cyc = s.cyc := by
  unfold branchWith at h
  split at h <;> exact complete_cyc h rfl

theorem blockMove_cyc {dir : Word} {mn : Mnemonic} {o : Operand} (h : blockMove op dir mn o s P = .next (t, n)) :
    t.cyc = s.cyc := by
  unfold blockMove at h
  split at h
  · exact write_cyc h (fun _ => rfl) rfl
  · cases h

/-- An operator whose mode forms its operand is applied to it. -/
theorem applied_next {α : Type} {mn : Mnemonic} {o : Operand} {f : Option (Formed α)} {g : Formed α → Counted}
    {r : State × Int} (h : applied mn o f g = .next r) : ∃ a, f = some a ∧ g a = .next r := by
  cases f with
  | none => cases h
  | some a => exact ⟨a, rfl, h⟩

/-! ## Every entry -/

/-- R368: an entry executed, whatever `OPTABLE` binds, leaves `CYC`. -/
theorem execEntry_cyc {mn : Mnemonic} {o : Operand} (h : execEntry P op mn o s = .next (t, n)) : t.cyc = s.cyc := by
  cases mn
  case brk =>
    have h : trapWith op P.vecBrkN P.vecBrkE (lenAdjOf .brk o s P) s P = .next (t, n) := h
    unfold trapWith at h
    exact complete_cyc h (by simp)
  case ora =>
    obtain ⟨f, -, h⟩ := applied_next h
    exact complete_cyc (u := opOra f.operand (s.advance f.len)) h (by simp [opOra])
  case cop =>
    have h : trapWith op P.vecCopN P.vecCopE (lenAdjOf .cop o s P) s P = .next (t, n) := h
    unfold trapWith at h
    exact complete_cyc h (by simp)
  case tsb => obtain ⟨f, -, h⟩ := applied_next h; unfold tsbWith opTsb at h; exact write_cyc h (fun _ => rfl) rfl
  case asl => obtain ⟨f, -, h⟩ := applied_next h; unfold aslWith opAsl at h; exact write_cyc h (fun _ => rfl) rfl
  case php =>
    have h : phpWith op (lenAdjOf .php o s P) s P = .next (t, n) := h
    unfold phpWith at h
    exact stacked_cyc h fun _ => by simp
  case phd =>
    have h : phdWith op (lenAdjOf .phd o s P) s P = .next (t, n) := h
    unfold phdWith at h
    exact stacked_cyc h fun _ => by simp
  case bpl => obtain ⟨f, -, h⟩ := applied_next h; exact branch_cyc h
  case trb => obtain ⟨f, -, h⟩ := applied_next h; unfold trbWith opTrb at h; exact write_cyc h (fun _ => rfl) rfl
  case clc =>
    have h : clcWith op (lenAdjOf .clc o s P) s P = .next (t, n) := h
    unfold clcWith implied at h
    exact stacked_cyc h fun _ => by simp
  case inc => obtain ⟨f, -, h⟩ := applied_next h; unfold incWith opInc at h; exact write_cyc h (fun _ => rfl) rfl
  case tcs =>
    have h : tcsWith op (lenAdjOf .tcs o s P) s P = .next (t, n) := h
    unfold tcsWith implied at h
    exact stacked_cyc h fun _ => by simp
  case jsr => obtain ⟨f, -, h⟩ := applied_next h; unfold jsrWith at h; exact complete_cyc h (by simp)
  case and =>
    obtain ⟨f, -, h⟩ := applied_next h
    exact complete_cyc (u := opAnd f.operand (s.advance f.len)) h (by simp [opAnd])
  case jsl => obtain ⟨f, -, h⟩ := applied_next h; unfold jslWith at h; exact complete_cyc h (by simp)
  case bit =>
    obtain ⟨f, -, h⟩ := applied_next h
    exact complete_cyc (u := opBit f.operand (s.advance f.len)) h (by unfold opBit; split <;> rfl)
  case rol => obtain ⟨f, -, h⟩ := applied_next h; unfold rolWith opRol at h; exact write_cyc h (fun _ => rfl) rfl
  case plp =>
    have h : plpWith op (lenAdjOf .plp o s P) s P = .next (t, n) := h
    unfold plpWith at h
    exact stacked_cyc h fun _ => by simp [opPlp]
  case pld =>
    have h : pldWith op (lenAdjOf .pld o s P) s P = .next (t, n) := h
    unfold pldWith at h
    exact stacked_cyc h fun _ => by simp [opPld]
  case bmi => obtain ⟨f, -, h⟩ := applied_next h; exact branch_cyc h
  case sec =>
    have h : secWith op (lenAdjOf .sec o s P) s P = .next (t, n) := h
    unfold secWith implied at h
    exact stacked_cyc h fun _ => by simp
  case dec => obtain ⟨f, -, h⟩ := applied_next h; unfold decWith opDec at h; exact write_cyc h (fun _ => rfl) rfl
  case tsc =>
    have h : tscWith op (lenAdjOf .tsc o s P) s P = .next (t, n) := h
    unfold tscWith implied at h
    exact stacked_cyc h fun _ => by simp
  case rti =>
    have h : rtiWith op (lenAdjOf .rti o s P) s P = .next (t, n) := h
    unfold rtiWith at h
    exact stacked_cyc h fun _ => by simp
  case eor =>
    obtain ⟨f, -, h⟩ := applied_next h
    exact complete_cyc (u := opEor f.operand (s.advance f.len)) h (by simp [opEor])
  case wdm => exact complete_cyc (u := s.advance (lenAdjOf .wdm o s P).len) h rfl
  case mvp => exact blockMove_cyc h
  case lsr => obtain ⟨f, -, h⟩ := applied_next h; unfold lsrWith opLsr at h; exact write_cyc h (fun _ => rfl) rfl
  case pha =>
    have h : phaWith op (lenAdjOf .pha o s P) s P = .next (t, n) := h
    unfold phaWith at h
    exact stacked_cyc h fun _ => by simp
  case phk =>
    have h : phkWith op (lenAdjOf .phk o s P) s P = .next (t, n) := h
    unfold phkWith at h
    exact stacked_cyc h fun _ => by simp
  case jmp => obtain ⟨f, -, h⟩ := applied_next h; unfold jmpWith at h; exact complete_cyc h rfl
  case bvc => obtain ⟨f, -, h⟩ := applied_next h; exact branch_cyc h
  case mvn => exact blockMove_cyc h
  case cli =>
    have h : cliWith op (lenAdjOf .cli o s P) s P = .next (t, n) := h
    unfold cliWith implied at h
    exact stacked_cyc h fun _ => by simp
  case phy =>
    have h : phyWith op (lenAdjOf .phy o s P) s P = .next (t, n) := h
    unfold phyWith at h
    exact stacked_cyc h fun _ => by simp
  case tcd =>
    have h : tcdWith op (lenAdjOf .tcd o s P) s P = .next (t, n) := h
    unfold tcdWith implied at h
    exact stacked_cyc h fun _ => by simp
  case jml => obtain ⟨f, -, h⟩ := applied_next h; unfold jmlWith at h; exact complete_cyc h rfl
  case rts =>
    have h : rtsWith op (lenAdjOf .rts o s P) s P = .next (t, n) := h
    unfold rtsWith at h
    exact stacked_cyc h fun _ => by simp [opRts]
  case adc =>
    obtain ⟨f, -, h⟩ := applied_next h
    exact complete_cyc (u := opAdc f.operand (s.advance f.len) P) h (by simp [opAdc])
  case per => obtain ⟨f, -, h⟩ := applied_next h; unfold pushEffective at h; exact complete_cyc h (by simp)
  case stz =>
    obtain ⟨f, -, h⟩ := applied_next h
    exact opWrite_cyc (r := opStz f.operand (s.advance f.len)) h fun u hu => locWrite_cyc (s := s.advance f.len) hu
  case ror => obtain ⟨f, -, h⟩ := applied_next h; unfold rorWith opRor at h; exact write_cyc h (fun _ => rfl) rfl
  case pla =>
    have h : plaWith op (lenAdjOf .pla o s P) s P = .next (t, n) := h
    unfold plaWith at h
    exact stacked_cyc h fun _ => by simp [opPla]
  case rtl =>
    have h : rtlWith op (lenAdjOf .rtl o s P) s P = .next (t, n) := h
    unfold rtlWith at h
    exact stacked_cyc h fun _ => by simp [opRtl]
  case bvs => obtain ⟨f, -, h⟩ := applied_next h; exact branch_cyc h
  case sei =>
    have h : seiWith op (lenAdjOf .sei o s P) s P = .next (t, n) := h
    unfold seiWith implied at h
    exact stacked_cyc h fun _ => by simp
  case ply =>
    have h : plyWith op (lenAdjOf .ply o s P) s P = .next (t, n) := h
    unfold plyWith at h
    exact stacked_cyc h fun _ => by simp [opPly]
  case tdc =>
    have h : tdcWith op (lenAdjOf .tdc o s P) s P = .next (t, n) := h
    unfold tdcWith implied at h
    exact stacked_cyc h fun _ => by simp
  case bra => obtain ⟨f, -, h⟩ := applied_next h; exact branch_cyc h
  case sta =>
    obtain ⟨f, -, h⟩ := applied_next h
    exact opWrite_cyc (r := opSta f.operand (s.advance f.len)) h fun u hu => locWrite_cyc (s := s.advance f.len) hu
  case brl => obtain ⟨f, -, h⟩ := applied_next h; unfold brlWith at h; exact complete_cyc h rfl
  case sty =>
    obtain ⟨f, -, h⟩ := applied_next h
    exact opWrite_cyc (r := opSty f.operand (s.advance f.len)) h fun u hu => locWrite_cyc (s := s.advance f.len) hu
  case stx =>
    obtain ⟨f, -, h⟩ := applied_next h
    exact opWrite_cyc (r := opStx f.operand (s.advance f.len)) h fun u hu => locWrite_cyc (s := s.advance f.len) hu
  case dey =>
    have h : deyWith op (lenAdjOf .dey o s P) s P = .next (t, n) := h
    unfold deyWith implied at h
    exact stacked_cyc h fun _ => by simp [stepY]
  case txa =>
    have h : txaWith op (lenAdjOf .txa o s P) s P = .next (t, n) := h
    unfold txaWith implied at h
    exact stacked_cyc h fun _ => by simp [moveToA]
  case phb =>
    have h : phbWith op (lenAdjOf .phb o s P) s P = .next (t, n) := h
    unfold phbWith at h
    exact stacked_cyc h fun _ => by simp
  case bcc => obtain ⟨f, -, h⟩ := applied_next h; exact branch_cyc h
  case tya =>
    have h : tyaWith op (lenAdjOf .tya o s P) s P = .next (t, n) := h
    unfold tyaWith implied at h
    exact stacked_cyc h fun _ => by simp [moveToA]
  case txs =>
    have h : txsWith op (lenAdjOf .txs o s P) s P = .next (t, n) := h
    unfold txsWith implied at h
    exact stacked_cyc h fun _ => by simp
  case txy =>
    have h : txyWith op (lenAdjOf .txy o s P) s P = .next (t, n) := h
    unfold txyWith implied at h
    exact stacked_cyc h fun _ => by simp [moveToY]
  case ldy =>
    obtain ⟨f, -, h⟩ := applied_next h
    exact complete_cyc (u := opLdy f.operand (s.advance f.len)) h (by simp [opLdy])
  case lda =>
    obtain ⟨f, -, h⟩ := applied_next h
    exact complete_cyc (u := opLda f.operand (s.advance f.len)) h (by simp [opLda])
  case ldx =>
    obtain ⟨f, -, h⟩ := applied_next h
    exact complete_cyc (u := opLdx f.operand (s.advance f.len)) h (by simp [opLdx])
  case tay =>
    have h : tayWith op (lenAdjOf .tay o s P) s P = .next (t, n) := h
    unfold tayWith implied at h
    exact stacked_cyc h fun _ => by simp [moveToY]
  case tax =>
    have h : taxWith op (lenAdjOf .tax o s P) s P = .next (t, n) := h
    unfold taxWith implied at h
    exact stacked_cyc h fun _ => by simp [moveToX]
  case plb =>
    have h : plbWith op (lenAdjOf .plb o s P) s P = .next (t, n) := h
    unfold plbWith at h
    exact stacked_cyc h fun _ => by simp [opPlb]
  case bcs => obtain ⟨f, -, h⟩ := applied_next h; exact branch_cyc h
  case clv =>
    have h : clvWith op (lenAdjOf .clv o s P) s P = .next (t, n) := h
    unfold clvWith implied at h
    exact stacked_cyc h fun _ => by simp
  case tsx =>
    have h : tsxWith op (lenAdjOf .tsx o s P) s P = .next (t, n) := h
    unfold tsxWith implied at h
    exact stacked_cyc h fun _ => by simp [moveToX]
  case tyx =>
    have h : tyxWith op (lenAdjOf .tyx o s P) s P = .next (t, n) := h
    unfold tyxWith implied at h
    exact stacked_cyc h fun _ => by simp [moveToX]
  case cpy =>
    obtain ⟨f, -, h⟩ := applied_next h
    exact complete_cyc (u := opCpy f.operand (s.advance f.len)) h (by simp [opCpy, compare])
  case cmp =>
    obtain ⟨f, -, h⟩ := applied_next h
    exact complete_cyc (u := opCmp f.operand (s.advance f.len)) h (by simp [opCmp, compare])
  case rep => obtain ⟨f, -, h⟩ := applied_next h; unfold repWith at h; exact complete_cyc h rfl
  case iny =>
    have h : inyWith op (lenAdjOf .iny o s P) s P = .next (t, n) := h
    unfold inyWith implied at h
    exact stacked_cyc h fun _ => by simp [stepY]
  case dex =>
    have h : dexWith op (lenAdjOf .dex o s P) s P = .next (t, n) := h
    unfold dexWith implied at h
    exact stacked_cyc h fun _ => by simp [stepX]
  case wai => cases h
  case bne => obtain ⟨f, -, h⟩ := applied_next h; exact branch_cyc h
  case pei => obtain ⟨f, -, h⟩ := applied_next h; unfold pushEffective at h; exact complete_cyc h (by simp)
  case cld =>
    have h : cldWith op (lenAdjOf .cld o s P) s P = .next (t, n) := h
    unfold cldWith implied at h
    exact stacked_cyc h fun _ => by simp
  case phx =>
    have h : phxWith op (lenAdjOf .phx o s P) s P = .next (t, n) := h
    unfold phxWith at h
    exact stacked_cyc h fun _ => by simp
  case stp => cases h
  case cpx =>
    obtain ⟨f, -, h⟩ := applied_next h
    exact complete_cyc (u := opCpx f.operand (s.advance f.len)) h (by simp [opCpx, compare])
  case sbc =>
    obtain ⟨f, -, h⟩ := applied_next h
    exact complete_cyc (u := opSbc f.operand (s.advance f.len) P) h (by simp [opSbc])
  case sep => obtain ⟨f, -, h⟩ := applied_next h; unfold sepWith at h; exact complete_cyc h rfl
  case inx =>
    have h : inxWith op (lenAdjOf .inx o s P) s P = .next (t, n) := h
    unfold inxWith implied at h
    exact stacked_cyc h fun _ => by simp [stepX]
  case nop =>
    have h : nopWith op (lenAdjOf .nop o s P) s P = .next (t, n) := h
    unfold nopWith implied at h
    exact stacked_cyc h fun _ => by rfl
  case xba =>
    have h : xbaWith op (lenAdjOf .xba o s P) s P = .next (t, n) := h
    unfold xbaWith implied at h
    exact stacked_cyc h fun _ => by simp [opXba]
  case beq => obtain ⟨f, -, h⟩ := applied_next h; exact branch_cyc h
  case pea => obtain ⟨f, -, h⟩ := applied_next h; unfold pushEffective at h; exact complete_cyc h (by simp)
  case sed =>
    have h : sedWith op (lenAdjOf .sed o s P) s P = .next (t, n) := h
    unfold sedWith implied at h
    exact stacked_cyc h fun _ => by simp
  case plx =>
    have h : plxWith op (lenAdjOf .plx o s P) s P = .next (t, n) := h
    unfold plxWith at h
    exact stacked_cyc h fun _ => by simp [opPlx]
  case xce =>
    have h : xceWith op (lenAdjOf .xce o s P) s P = .next (t, n) := h
    unfold xceWith implied at h
    exact stacked_cyc h fun _ => by simp [opXce]

/-! ## The step at the defaults -/

/-- R94, R100: what the bytes decode to is what the table selects. -/
theorem selected_of_fetchInstr {s : State} {i : Instr} (h : s.fetchInstr = .ok i) :
    i.opcode = s.fetch 0 ∧ i.mnemonic = s.selectedCell.mnemonic ∧ i.operand = s.selectedOperand := by
  obtain ⟨en, he⟩ := Option.isSome_iff_exists.mp (entryOf_isSome (s.fetch 0))
  simp only [State.fetchInstr, State.fetchBytes, decode, he] at h
  cases hd : decodeEntry s.flagM s.flagX (s.fetch 0) en [s.fetch 1, s.fetch 2, s.fetch 3] with
  | error e => rw [hd] at h; cases h
  | ok r =>
    rw [hd] at h
    cases h
    obtain ⟨ho, hm, hf⟩ := entry_sound _ _ he _ _ _ _ _ _ _ hd
    have hc : s.selectedCell = cellOf (sampleOf en) := by
      rw [State.selectedCell, Parameters.std_optable, select_standard, standardCell, he, Option.getD_some]
    exact ⟨ho, by rw [hm, hc], by rw [hf, State.selectedOperand, hc]⟩

/-- R360: a step at any parameters completes where the entry it selects does. -/
theorem stepWith_next {P : Parameters} {s : StateAt P.cycWidth} {v t : State} {n : Int} (hv : s.view = v)
    (hu : unimplementedEntry (v.fetch 0) P = false)
    (hr : execEntry P (v.fetch 0) (v.selectedCell P).mnemonic (v.selectedOperand P) v = .next (t, n)) :
    stepWith P s = .next (t.withCyc (s.cyc + BitVec.ofInt P.cycWidth n), n) := by
  subst hv
  simp only [stepWith, hu, hr]
  rfl

/-- R360: at the defaults the machine with parameters takes the same step, and returns what it adds to `CYC`. -/
theorem stepWith_std {s t : State} (h : step s = .next t) :
    ∃ n : Int, stepWith .std s.atWidth = .next (t.atWidth, n) ∧ t.cyc = s.cyc + BitVec.ofInt 64 n := by
  rcases step_eq s with ⟨-, hf⟩ | ⟨hu, i, hi, hs⟩
  · rw [hf] at h
    cases h
  · obtain ⟨ho, hm, hf⟩ := selected_of_fetchInstr hi
    rw [hs, ← chargeCycles_execEntry_std] at h
    obtain ⟨u, n, hr, rfl⟩ := chargeCycles_next.mp h
    rw [ho, hm, hf] at hr
    refine ⟨n, ?_, by rw [State.addCycles_cyc, execEntry_cyc hr]⟩
    rw [stepWith_next (P := .std) (s := s.atWidth) (view_atWidth s) hu hr]
    show Host.Outcome.next (u.withCyc (s.cyc + BitVec.ofInt 64 n), n) = _
    rw [← execEntry_cyc hr]
    rfl

end Sys2Proof.Machine
end

