-- ==== Sys2Proof/Laws/Invariant.lean ====
section
/-! SUPPORT. The invariants of the block (R24, R25, R32) and the canonical form of memory are kept by each shared operation, and
the reset state has them. -/

namespace Sys2Proof.Machine

theorem reset_inv : Inv State.reset := by decide

/-- The invariants depend on `P`, `E`, `X`, `Y`, `S` and memory alone. -/
theorem Inv.congr {s t : State} (h : Inv s) (hp : t.p = s.p) (he : t.e = s.e) (hx : t.x = s.x) (hy : t.y = s.y)
    (hs : t.sp = s.sp) (hm : t.mem.wf = true) : Inv t := by
  simpa [InvIX, InvIS, InvIE, State.flagX, State.flagM, hp, he, hx, hy, hs, hm, Inv] using ⟨h.1, h.2.1, h.2.2.1⟩

/-! ## Writes of registers that no invariant mentions -/

theorem Inv.setA {s : State} (h : Inv s) (w : Width) (v : Word) : Inv (s.setA w v) :=
  h.congr rfl rfl rfl rfl rfl h.2.2.2

theorem Inv.setD {s : State} (h : Inv s) (v : Word) : Inv (s.setD v) := h.congr rfl rfl rfl rfl rfl h.2.2.2

theorem Inv.setDbr {s : State} (h : Inv s) (v : Byte) : Inv (s.setDbr v) := h.congr rfl rfl rfl rfl rfl h.2.2.2

theorem Inv.setPbr {s : State} (h : Inv s) (v : Byte) : Inv (s.setPbr v) := h.congr rfl rfl rfl rfl rfl h.2.2.2

theorem Inv.setPc {s : State} (h : Inv s) (v : Word) : Inv (s.setPc v) := h.congr rfl rfl rfl rfl rfl h.2.2.2

theorem Inv.advance {s : State} (h : Inv s) (n : Nat) : Inv (s.advance n) := h.congr rfl rfl rfl rfl rfl h.2.2.2

theorem Inv.addCycles {s : State} (h : Inv s) (n : Int) : Inv (s.addCycles n) :=
  h.congr rfl rfl rfl rfl rfl h.2.2.2

/-! ## Memory -/

theorem Inv.writeMem {s : State} (h : Inv s) (a : Addr) (v : Byte) : Inv (s.writeMem a v) :=
  h.congr rfl rfl rfl rfl rfl (wf_writeMem a v h.2.2.2)

theorem Inv.writeBytes {s : State} (h : Inv s) (as : List Addr) (v : Nat) : Inv (s.writeBytes as v) := by
  induction as generalizing s v with
  | nil => exact h
  | cons a rest ih => exact ih (h.writeMem a _) _

theorem Inv.locWrite {s t : State} (h : Inv s) {loc : Loc} {w : Width} {v : Word} (ht : s.locWrite loc w v = .ok t) :
    Inv t := by
  cases loc <;> cases ht
  · exact h.writeBytes _ _
  · exact h.writeBytes _ _
  · exact h.setA _ _

/-! ## Flags -/

/-- R33: a write of flags other than m and x. -/
theorem Inv.setFlag {s : State} (h : Inv s) {k : Byte} (b : Bool) (hk : k &&& 0x30 = 0) : Inv (s.setFlag k b) := by
  have h4 : (s.setFlag k b).flagX = s.flagX := by
    have := congrArg (fun p : Byte => p.getLsbD 4) (putFlag_and_of_disjoint s.p k 0x30 b hk)
    simpa [State.flagX] using this
  have h5 : (s.setFlag k b).flagM = s.flagM := by
    have := congrArg (fun p : Byte => p.getLsbD 5) (putFlag_and_of_disjoint s.p k 0x30 b hk)
    simpa [State.flagM] using this
  exact ⟨fun hx => h.1 (h4 ▸ hx), h.2.1, fun he => by rw [h4, h5]; exact h.2.2.1 he, h.2.2.2⟩

theorem Inv.setNZ {s : State} (h : Inv s) (w : Width) (r : Word) : Inv (s.setNZ w r) :=
  (h.setFlag _ (by decide)).setFlag _ (by decide)

theorem Inv.setNVZC {s : State} (h : Inv s) (w : Width) (r : AluResult) : Inv (s.setNVZC w r) :=
  ((h.setFlag _ (by decide)).setFlag _ (by decide)).setNZ _ _

/-! ## Index registers and the stack pointer -/

/-- R35: a write of X at the index width. -/
theorem Inv.setX {s : State} (h : Inv s) (v : Word) : Inv (s.setX s.wX v) := by
  refine ⟨fun hx => ⟨?_, (h.1 hx).2⟩, h.2.1, h.2.2.1, h.2.2.2⟩
  have : s.flagX = true := hx
  simp [State.wX, this, Width.ofFlag, truncTo]

/-- R35: a write of Y at the index width. -/
theorem Inv.setY {s : State} (h : Inv s) (v : Word) : Inv (s.setY s.wX v) := by
  refine ⟨fun hx => ⟨(h.1 hx).1, ?_⟩, h.2.1, h.2.2.1, h.2.2.2⟩
  have : s.flagX = true := hx
  simp [State.wX, this, Width.ofFlag, truncTo]

/-- R34. -/
theorem Inv.setS {s : State} (h : Inv s) (v : Word) : Inv (s.setS v) :=
  ⟨h.1, setS_inPage s v, h.2.2.1, h.2.2.2⟩

/-! ## The stack -/

theorem Inv.push8 {s : State} (h : Inv s) (v : Byte) : Inv (s.push8 v) := (h.writeMem _ _).setS _

theorem Inv.push16 {s : State} (h : Inv s) (v : Word) : Inv (s.push16 v) := (h.push8 _).push8 _

theorem Inv.pushW {s : State} (h : Inv s) (w : Width) (v : Word) : Inv (s.pushW w v) := by
  cases w
  · exact h.push8 _
  · exact h.push16 _

theorem Inv.pull8 {s : State} (h : Inv s) : Inv s.pull8.2 := h.setS _

theorem Inv.pull16 {s : State} (h : Inv s) : Inv s.pull16.2 := h.pull8.pull8

theorem Inv.pull24 {s : State} (h : Inv s) : Inv s.pull24.2 := h.pull16.pull8

theorem Inv.pullW {s : State} (h : Inv s) (w : Width) : Inv (s.pullW w).2 := by
  cases w
  · exact h.pull8
  · exact h.pull16

/-! ## The status byte and the emulation bit -/

/-- R38: `Normalize` establishes the invariants in any state. -/
theorem inv_normalize {s : State} (h : s.mem.wf = true) : Inv s.normalize := by
  refine ⟨fun hx => ?_, fun he => ?_, fun he => ?_, h⟩
  · have hx' : (forceWidths s.e s.p).getLsbD 4 = true := hx
    rw [State.normalize_x, State.normalize_y, if_pos hx', if_pos hx', hi_word, hi_word]
    exact ⟨rfl, rfl⟩
  · have he' : s.e = true := he
    rw [State.normalize_sp, if_pos he', pageOne, hi_word]
  · have he' : s.e = true := he
    have hp : s.normalize.p = forceWidths true s.p := by rw [State.normalize_p, he']
    rw [State.flagM, State.flagX, hp]
    exact forceWidths_widths s.p

theorem Inv.setP {s : State} (h : Inv s) (v : Byte) : Inv (s.setP v) := inv_normalize h.2.2.2

theorem Inv.setE {s : State} (h : Inv s) (b : Bool) : Inv (s.setE b) := inv_normalize h.2.2.2

/-! ## Traps -/

theorem Inv.takeTrap {s : State} (h : Inv s) (vecN vecE : Addr) (ret : Word) : Inv (s.takeTrap vecN vecE ret) := by
  have hb : Inv (if s.e then s else s.push8 s.pbr) := by
    split
    · exact h
    · exact h.push8 _
  exact (((((hb.push16 ret).push8 s.p).setFlag _ (by decide)).setFlag _ (by decide)).setPbr _).setPc _

theorem Inv.returnFromTrap {s : State} (h : Inv s) : Inv s.returnFromTrap := by
  have hr := ((h.pull8.setP s.pull8.1).pull16).setPc (s.pull8.2.setP s.pull8.1).pull16.1
  unfold State.returnFromTrap
  split
  · exact hr
  · exact hr.pull8.setPbr _

/-! ## Completing -/

theorem Inv.chargeCycles {r : Counted} {t : State} (h : ∀ u n, r = .next (u, n) → Inv u) (ht : chargeCycles r = .next t) : Inv t := by
  obtain ⟨u, n, hr, rfl⟩ := chargeCycles_next.mp ht
  exact (h u n hr).addCycles n

theorem Inv.complete {op : Byte} {adj extra : Int} {s t : State} {n : Int} {P : Parameters} (h : Inv s)
    (ht : complete op adj extra s P = .next (t, n)) : Inv t := by
  cases ht
  exact h

end Sys2Proof.Machine
end

