-- ==== Sys2Proof/Laws/PerInstr.lean ====
section
/-! SUPPORT. The encoded shape of each instruction (R90, R91): its opcode byte comes first, its length is that of its encoding,
and it has one to four bytes; one lemma per constructor. -/

namespace Sys2Proof.Laws.EncodedShape

/-- R90, R91: the encoding begins with the opcode byte, and the instruction has one to four bytes. -/
def Statement (i : Instr) : Prop :=
  (encode i).head? = some i.opcode ∧ (encode i).length = i.length ∧ 1 ≤ i.length ∧ i.length ≤ 4

/-- The shape follows from the number of operand bytes. -/
theorem of_operand {i : Instr} (h : i.operand.bytes.length ≤ 3) : Statement i :=
  ⟨rfl, Nat.add_comm _ _, Nat.le_add_right _ _, Nat.add_le_add_left h 1⟩

theorem brk (sig : Byte) : Statement (.brk sig) := of_operand (Nat.le_of_ble_eq_true rfl)
theorem oraIdpx (dd : Byte) : Statement (.oraIdpx dd) := of_operand (Nat.le_of_ble_eq_true rfl)
theorem cop (sig : Byte) : Statement (.cop sig) := of_operand (Nat.le_of_ble_eq_true rfl)
theorem oraSr (sr : Byte) : Statement (.oraSr sr) := of_operand (Nat.le_of_ble_eq_true rfl)
theorem tsbDp (dd : Byte) : Statement (.tsbDp dd) := of_operand (Nat.le_of_ble_eq_true rfl)
theorem oraDp (dd : Byte) : Statement (.oraDp dd) := of_operand (Nat.le_of_ble_eq_true rfl)
theorem aslDp (dd : Byte) : Statement (.aslDp dd) := of_operand (Nat.le_of_ble_eq_true rfl)
theorem oraIldp (dd : Byte) : Statement (.oraIldp dd) := of_operand (Nat.le_of_ble_eq_true rfl)
theorem php : Statement .php := of_operand (Nat.le_of_ble_eq_true rfl)
theorem oraImmM8 (v : Byte) : Statement (.oraImmM8 v) := of_operand (Nat.le_of_ble_eq_true rfl)
theorem oraImmM16 (v : Word) : Statement (.oraImmM16 v) := of_operand (Nat.le_of_ble_eq_true rfl)
theorem aslAcc : Statement .aslAcc := of_operand (Nat.le_of_ble_eq_true rfl)
theorem phd : Statement .phd := of_operand (Nat.le_of_ble_eq_true rfl)
theorem tsbAbs (aa : Word) : Statement (.tsbAbs aa) := of_operand (Nat.le_of_ble_eq_true rfl)
theorem oraAbs (aa : Word) : Statement (.oraAbs aa) := of_operand (Nat.le_of_ble_eq_true rfl)
theorem aslAbs (aa : Word) : Statement (.aslAbs aa) := of_operand (Nat.le_of_ble_eq_true rfl)
theorem oraLong (al : Addr) : Statement (.oraLong al) := of_operand (Nat.le_of_ble_eq_true rfl)
theorem bpl (disp : Byte) : Statement (.bpl disp) := of_operand (Nat.le_of_ble_eq_true rfl)
theorem oraIdpy (dd : Byte) : Statement (.oraIdpy dd) := of_operand (Nat.le_of_ble_eq_true rfl)
theorem oraIdp (dd : Byte) : Statement (.oraIdp dd) := of_operand (Nat.le_of_ble_eq_true rfl)
theorem oraIsry (sr : Byte) : Statement (.oraIsry sr) := of_operand (Nat.le_of_ble_eq_true rfl)
theorem trbDp (dd : Byte) : Statement (.trbDp dd) := of_operand (Nat.le_of_ble_eq_true rfl)
theorem oraDpx (dd : Byte) : Statement (.oraDpx dd) := of_operand (Nat.le_of_ble_eq_true rfl)
theorem aslDpx (dd : Byte) : Statement (.aslDpx dd) := of_operand (Nat.le_of_ble_eq_true rfl)
theorem oraIldpy (dd : Byte) : Statement (.oraIldpy dd) := of_operand (Nat.le_of_ble_eq_true rfl)
theorem clc : Statement .clc := of_operand (Nat.le_of_ble_eq_true rfl)
theorem oraAbsy (aa : Word) : Statement (.oraAbsy aa) := of_operand (Nat.le_of_ble_eq_true rfl)
theorem incAcc : Statement .incAcc := of_operand (Nat.le_of_ble_eq_true rfl)
theorem tcs : Statement .tcs := of_operand (Nat.le_of_ble_eq_true rfl)
theorem trbAbs (aa : Word) : Statement (.trbAbs aa) := of_operand (Nat.le_of_ble_eq_true rfl)
theorem oraAbsx (aa : Word) : Statement (.oraAbsx aa) := of_operand (Nat.le_of_ble_eq_true rfl)
theorem aslAbsx (aa : Word) : Statement (.aslAbsx aa) := of_operand (Nat.le_of_ble_eq_true rfl)
theorem oraLongx (al : Addr) : Statement (.oraLongx al) := of_operand (Nat.le_of_ble_eq_true rfl)
theorem jsrPabs (aa : Word) : Statement (.jsrPabs aa) := of_operand (Nat.le_of_ble_eq_true rfl)
theorem andIdpx (dd : Byte) : Statement (.andIdpx dd) := of_operand (Nat.le_of_ble_eq_true rfl)
theorem jsl (al : Addr) : Statement (.jsl al) := of_operand (Nat.le_of_ble_eq_true rfl)
theorem andSr (sr : Byte) : Statement (.andSr sr) := of_operand (Nat.le_of_ble_eq_true rfl)
theorem bitDp (dd : Byte) : Statement (.bitDp dd) := of_operand (Nat.le_of_ble_eq_true rfl)
theorem andDp (dd : Byte) : Statement (.andDp dd) := of_operand (Nat.le_of_ble_eq_true rfl)
theorem rolDp (dd : Byte) : Statement (.rolDp dd) := of_operand (Nat.le_of_ble_eq_true rfl)
theorem andIldp (dd : Byte) : Statement (.andIldp dd) := of_operand (Nat.le_of_ble_eq_true rfl)
theorem plp : Statement .plp := of_operand (Nat.le_of_ble_eq_true rfl)
theorem andImmM8 (v : Byte) : Statement (.andImmM8 v) := of_operand (Nat.le_of_ble_eq_true rfl)
theorem andImmM16 (v : Word) : Statement (.andImmM16 v) := of_operand (Nat.le_of_ble_eq_true rfl)
theorem rolAcc : Statement .rolAcc := of_operand (Nat.le_of_ble_eq_true rfl)
theorem pld : Statement .pld := of_operand (Nat.le_of_ble_eq_true rfl)
theorem bitAbs (aa : Word) : Statement (.bitAbs aa) := of_operand (Nat.le_of_ble_eq_true rfl)
theorem andAbs (aa : Word) : Statement (.andAbs aa) := of_operand (Nat.le_of_ble_eq_true rfl)
theorem rolAbs (aa : Word) : Statement (.rolAbs aa) := of_operand (Nat.le_of_ble_eq_true rfl)
theorem andLong (al : Addr) : Statement (.andLong al) := of_operand (Nat.le_of_ble_eq_true rfl)
theorem bmi (disp : Byte) : Statement (.bmi disp) := of_operand (Nat.le_of_ble_eq_true rfl)
theorem andIdpy (dd : Byte) : Statement (.andIdpy dd) := of_operand (Nat.le_of_ble_eq_true rfl)
theorem andIdp (dd : Byte) : Statement (.andIdp dd) := of_operand (Nat.le_of_ble_eq_true rfl)
theorem andIsry (sr : Byte) : Statement (.andIsry sr) := of_operand (Nat.le_of_ble_eq_true rfl)
theorem bitDpx (dd : Byte) : Statement (.bitDpx dd) := of_operand (Nat.le_of_ble_eq_true rfl)
theorem andDpx (dd : Byte) : Statement (.andDpx dd) := of_operand (Nat.le_of_ble_eq_true rfl)
theorem rolDpx (dd : Byte) : Statement (.rolDpx dd) := of_operand (Nat.le_of_ble_eq_true rfl)
theorem andIldpy (dd : Byte) : Statement (.andIldpy dd) := of_operand (Nat.le_of_ble_eq_true rfl)
theorem sec : Statement .sec := of_operand (Nat.le_of_ble_eq_true rfl)
theorem andAbsy (aa : Word) : Statement (.andAbsy aa) := of_operand (Nat.le_of_ble_eq_true rfl)
theorem decAcc : Statement .decAcc := of_operand (Nat.le_of_ble_eq_true rfl)
theorem tsc : Statement .tsc := of_operand (Nat.le_of_ble_eq_true rfl)
theorem bitAbsx (aa : Word) : Statement (.bitAbsx aa) := of_operand (Nat.le_of_ble_eq_true rfl)
theorem andAbsx (aa : Word) : Statement (.andAbsx aa) := of_operand (Nat.le_of_ble_eq_true rfl)
theorem rolAbsx (aa : Word) : Statement (.rolAbsx aa) := of_operand (Nat.le_of_ble_eq_true rfl)
theorem andLongx (al : Addr) : Statement (.andLongx al) := of_operand (Nat.le_of_ble_eq_true rfl)
theorem rti : Statement .rti := of_operand (Nat.le_of_ble_eq_true rfl)
theorem eorIdpx (dd : Byte) : Statement (.eorIdpx dd) := of_operand (Nat.le_of_ble_eq_true rfl)
theorem wdm (sig : Byte) : Statement (.wdm sig) := of_operand (Nat.le_of_ble_eq_true rfl)
theorem eorSr (sr : Byte) : Statement (.eorSr sr) := of_operand (Nat.le_of_ble_eq_true rfl)
theorem mvp (dst : Byte) (src : Byte) : Statement (.mvp dst src) := of_operand (Nat.le_of_ble_eq_true rfl)
theorem eorDp (dd : Byte) : Statement (.eorDp dd) := of_operand (Nat.le_of_ble_eq_true rfl)
theorem lsrDp (dd : Byte) : Statement (.lsrDp dd) := of_operand (Nat.le_of_ble_eq_true rfl)
theorem eorIldp (dd : Byte) : Statement (.eorIldp dd) := of_operand (Nat.le_of_ble_eq_true rfl)
theorem pha : Statement .pha := of_operand (Nat.le_of_ble_eq_true rfl)
theorem eorImmM8 (v : Byte) : Statement (.eorImmM8 v) := of_operand (Nat.le_of_ble_eq_true rfl)
theorem eorImmM16 (v : Word) : Statement (.eorImmM16 v) := of_operand (Nat.le_of_ble_eq_true rfl)
theorem lsrAcc : Statement .lsrAcc := of_operand (Nat.le_of_ble_eq_true rfl)
theorem phk : Statement .phk := of_operand (Nat.le_of_ble_eq_true rfl)
theorem jmpPabs (aa : Word) : Statement (.jmpPabs aa) := of_operand (Nat.le_of_ble_eq_true rfl)
theorem eorAbs (aa : Word) : Statement (.eorAbs aa) := of_operand (Nat.le_of_ble_eq_true rfl)
theorem lsrAbs (aa : Word) : Statement (.lsrAbs aa) := of_operand (Nat.le_of_ble_eq_true rfl)
theorem eorLong (al : Addr) : Statement (.eorLong al) := of_operand (Nat.le_of_ble_eq_true rfl)
theorem bvc (disp : Byte) : Statement (.bvc disp) := of_operand (Nat.le_of_ble_eq_true rfl)
theorem eorIdpy (dd : Byte) : Statement (.eorIdpy dd) := of_operand (Nat.le_of_ble_eq_true rfl)
theorem eorIdp (dd : Byte) : Statement (.eorIdp dd) := of_operand (Nat.le_of_ble_eq_true rfl)
theorem eorIsry (sr : Byte) : Statement (.eorIsry sr) := of_operand (Nat.le_of_ble_eq_true rfl)
theorem mvn (dst : Byte) (src : Byte) : Statement (.mvn dst src) := of_operand (Nat.le_of_ble_eq_true rfl)
theorem eorDpx (dd : Byte) : Statement (.eorDpx dd) := of_operand (Nat.le_of_ble_eq_true rfl)
theorem lsrDpx (dd : Byte) : Statement (.lsrDpx dd) := of_operand (Nat.le_of_ble_eq_true rfl)
theorem eorIldpy (dd : Byte) : Statement (.eorIldpy dd) := of_operand (Nat.le_of_ble_eq_true rfl)
theorem cli : Statement .cli := of_operand (Nat.le_of_ble_eq_true rfl)
theorem eorAbsy (aa : Word) : Statement (.eorAbsy aa) := of_operand (Nat.le_of_ble_eq_true rfl)
theorem phy : Statement .phy := of_operand (Nat.le_of_ble_eq_true rfl)
theorem tcd : Statement .tcd := of_operand (Nat.le_of_ble_eq_true rfl)
theorem jmlPlong (al : Addr) : Statement (.jmlPlong al) := of_operand (Nat.le_of_ble_eq_true rfl)
theorem eorAbsx (aa : Word) : Statement (.eorAbsx aa) := of_operand (Nat.le_of_ble_eq_true rfl)
theorem lsrAbsx (aa : Word) : Statement (.lsrAbsx aa) := of_operand (Nat.le_of_ble_eq_true rfl)
theorem eorLongx (al : Addr) : Statement (.eorLongx al) := of_operand (Nat.le_of_ble_eq_true rfl)
theorem rts : Statement .rts := of_operand (Nat.le_of_ble_eq_true rfl)
theorem adcIdpx (dd : Byte) : Statement (.adcIdpx dd) := of_operand (Nat.le_of_ble_eq_true rfl)
theorem per (disp : Word) : Statement (.per disp) := of_operand (Nat.le_of_ble_eq_true rfl)
theorem adcSr (sr : Byte) : Statement (.adcSr sr) := of_operand (Nat.le_of_ble_eq_true rfl)
theorem stzDp (dd : Byte) : Statement (.stzDp dd) := of_operand (Nat.le_of_ble_eq_true rfl)
theorem adcDp (dd : Byte) : Statement (.adcDp dd) := of_operand (Nat.le_of_ble_eq_true rfl)
theorem rorDp (dd : Byte) : Statement (.rorDp dd) := of_operand (Nat.le_of_ble_eq_true rfl)
theorem adcIldp (dd : Byte) : Statement (.adcIldp dd) := of_operand (Nat.le_of_ble_eq_true rfl)
theorem pla : Statement .pla := of_operand (Nat.le_of_ble_eq_true rfl)
theorem adcImmM8 (v : Byte) : Statement (.adcImmM8 v) := of_operand (Nat.le_of_ble_eq_true rfl)
theorem adcImmM16 (v : Word) : Statement (.adcImmM16 v) := of_operand (Nat.le_of_ble_eq_true rfl)
theorem rorAcc : Statement .rorAcc := of_operand (Nat.le_of_ble_eq_true rfl)
theorem rtl : Statement .rtl := of_operand (Nat.le_of_ble_eq_true rfl)
theorem jmpIabs (aa : Word) : Statement (.jmpIabs aa) := of_operand (Nat.le_of_ble_eq_true rfl)
theorem adcAbs (aa : Word) : Statement (.adcAbs aa) := of_operand (Nat.le_of_ble_eq_true rfl)
theorem rorAbs (aa : Word) : Statement (.rorAbs aa) := of_operand (Nat.le_of_ble_eq_true rfl)
theorem adcLong (al : Addr) : Statement (.adcLong al) := of_operand (Nat.le_of_ble_eq_true rfl)
theorem bvs (disp : Byte) : Statement (.bvs disp) := of_operand (Nat.le_of_ble_eq_true rfl)
theorem adcIdpy (dd : Byte) : Statement (.adcIdpy dd) := of_operand (Nat.le_of_ble_eq_true rfl)
theorem adcIdp (dd : Byte) : Statement (.adcIdp dd) := of_operand (Nat.le_of_ble_eq_true rfl)
theorem adcIsry (sr : Byte) : Statement (.adcIsry sr) := of_operand (Nat.le_of_ble_eq_true rfl)
theorem stzDpx (dd : Byte) : Statement (.stzDpx dd) := of_operand (Nat.le_of_ble_eq_true rfl)
theorem adcDpx (dd : Byte) : Statement (.adcDpx dd) := of_operand (Nat.le_of_ble_eq_true rfl)
theorem rorDpx (dd : Byte) : Statement (.rorDpx dd) := of_operand (Nat.le_of_ble_eq_true rfl)
theorem adcIldpy (dd : Byte) : Statement (.adcIldpy dd) := of_operand (Nat.le_of_ble_eq_true rfl)
theorem sei : Statement .sei := of_operand (Nat.le_of_ble_eq_true rfl)
theorem adcAbsy (aa : Word) : Statement (.adcAbsy aa) := of_operand (Nat.le_of_ble_eq_true rfl)
theorem ply : Statement .ply := of_operand (Nat.le_of_ble_eq_true rfl)
theorem tdc : Statement .tdc := of_operand (Nat.le_of_ble_eq_true rfl)
theorem jmpIabsx (aa : Word) : Statement (.jmpIabsx aa) := of_operand (Nat.le_of_ble_eq_true rfl)
theorem adcAbsx (aa : Word) : Statement (.adcAbsx aa) := of_operand (Nat.le_of_ble_eq_true rfl)
theorem rorAbsx (aa : Word) : Statement (.rorAbsx aa) := of_operand (Nat.le_of_ble_eq_true rfl)
theorem adcLongx (al : Addr) : Statement (.adcLongx al) := of_operand (Nat.le_of_ble_eq_true rfl)
theorem bra (disp : Byte) : Statement (.bra disp) := of_operand (Nat.le_of_ble_eq_true rfl)
theorem staIdpx (dd : Byte) : Statement (.staIdpx dd) := of_operand (Nat.le_of_ble_eq_true rfl)
theorem brl (disp : Word) : Statement (.brl disp) := of_operand (Nat.le_of_ble_eq_true rfl)
theorem staSr (sr : Byte) : Statement (.staSr sr) := of_operand (Nat.le_of_ble_eq_true rfl)
theorem styDp (dd : Byte) : Statement (.styDp dd) := of_operand (Nat.le_of_ble_eq_true rfl)
theorem staDp (dd : Byte) : Statement (.staDp dd) := of_operand (Nat.le_of_ble_eq_true rfl)
theorem stxDp (dd : Byte) : Statement (.stxDp dd) := of_operand (Nat.le_of_ble_eq_true rfl)
theorem staIldp (dd : Byte) : Statement (.staIldp dd) := of_operand (Nat.le_of_ble_eq_true rfl)
theorem dey : Statement .dey := of_operand (Nat.le_of_ble_eq_true rfl)
theorem bitImmM8 (v : Byte) : Statement (.bitImmM8 v) := of_operand (Nat.le_of_ble_eq_true rfl)
theorem bitImmM16 (v : Word) : Statement (.bitImmM16 v) := of_operand (Nat.le_of_ble_eq_true rfl)
theorem txa : Statement .txa := of_operand (Nat.le_of_ble_eq_true rfl)
theorem phb : Statement .phb := of_operand (Nat.le_of_ble_eq_true rfl)
theorem styAbs (aa : Word) : Statement (.styAbs aa) := of_operand (Nat.le_of_ble_eq_true rfl)
theorem staAbs (aa : Word) : Statement (.staAbs aa) := of_operand (Nat.le_of_ble_eq_true rfl)
theorem stxAbs (aa : Word) : Statement (.stxAbs aa) := of_operand (Nat.le_of_ble_eq_true rfl)
theorem staLong (al : Addr) : Statement (.staLong al) := of_operand (Nat.le_of_ble_eq_true rfl)
theorem bcc (disp : Byte) : Statement (.bcc disp) := of_operand (Nat.le_of_ble_eq_true rfl)
theorem staIdpy (dd : Byte) : Statement (.staIdpy dd) := of_operand (Nat.le_of_ble_eq_true rfl)
theorem staIdp (dd : Byte) : Statement (.staIdp dd) := of_operand (Nat.le_of_ble_eq_true rfl)
theorem staIsry (sr : Byte) : Statement (.staIsry sr) := of_operand (Nat.le_of_ble_eq_true rfl)
theorem styDpx (dd : Byte) : Statement (.styDpx dd) := of_operand (Nat.le_of_ble_eq_true rfl)
theorem staDpx (dd : Byte) : Statement (.staDpx dd) := of_operand (Nat.le_of_ble_eq_true rfl)
theorem stxDpy (dd : Byte) : Statement (.stxDpy dd) := of_operand (Nat.le_of_ble_eq_true rfl)
theorem staIldpy (dd : Byte) : Statement (.staIldpy dd) := of_operand (Nat.le_of_ble_eq_true rfl)
theorem tya : Statement .tya := of_operand (Nat.le_of_ble_eq_true rfl)
theorem staAbsy (aa : Word) : Statement (.staAbsy aa) := of_operand (Nat.le_of_ble_eq_true rfl)
theorem txs : Statement .txs := of_operand (Nat.le_of_ble_eq_true rfl)
theorem txy : Statement .txy := of_operand (Nat.le_of_ble_eq_true rfl)
theorem stzAbs (aa : Word) : Statement (.stzAbs aa) := of_operand (Nat.le_of_ble_eq_true rfl)
theorem staAbsx (aa : Word) : Statement (.staAbsx aa) := of_operand (Nat.le_of_ble_eq_true rfl)
theorem stzAbsx (aa : Word) : Statement (.stzAbsx aa) := of_operand (Nat.le_of_ble_eq_true rfl)
theorem staLongx (al : Addr) : Statement (.staLongx al) := of_operand (Nat.le_of_ble_eq_true rfl)
theorem ldyImmX8 (v : Byte) : Statement (.ldyImmX8 v) := of_operand (Nat.le_of_ble_eq_true rfl)
theorem ldyImmX16 (v : Word) : Statement (.ldyImmX16 v) := of_operand (Nat.le_of_ble_eq_true rfl)
theorem ldaIdpx (dd : Byte) : Statement (.ldaIdpx dd) := of_operand (Nat.le_of_ble_eq_true rfl)
theorem ldxImmX8 (v : Byte) : Statement (.ldxImmX8 v) := of_operand (Nat.le_of_ble_eq_true rfl)
theorem ldxImmX16 (v : Word) : Statement (.ldxImmX16 v) := of_operand (Nat.le_of_ble_eq_true rfl)
theorem ldaSr (sr : Byte) : Statement (.ldaSr sr) := of_operand (Nat.le_of_ble_eq_true rfl)
theorem ldyDp (dd : Byte) : Statement (.ldyDp dd) := of_operand (Nat.le_of_ble_eq_true rfl)
theorem ldaDp (dd : Byte) : Statement (.ldaDp dd) := of_operand (Nat.le_of_ble_eq_true rfl)
theorem ldxDp (dd : Byte) : Statement (.ldxDp dd) := of_operand (Nat.le_of_ble_eq_true rfl)
theorem ldaIldp (dd : Byte) : Statement (.ldaIldp dd) := of_operand (Nat.le_of_ble_eq_true rfl)
theorem tay : Statement .tay := of_operand (Nat.le_of_ble_eq_true rfl)
theorem ldaImmM8 (v : Byte) : Statement (.ldaImmM8 v) := of_operand (Nat.le_of_ble_eq_true rfl)
theorem ldaImmM16 (v : Word) : Statement (.ldaImmM16 v) := of_operand (Nat.le_of_ble_eq_true rfl)
theorem tax : Statement .tax := of_operand (Nat.le_of_ble_eq_true rfl)
theorem plb : Statement .plb := of_operand (Nat.le_of_ble_eq_true rfl)
theorem ldyAbs (aa : Word) : Statement (.ldyAbs aa) := of_operand (Nat.le_of_ble_eq_true rfl)
theorem ldaAbs (aa : Word) : Statement (.ldaAbs aa) := of_operand (Nat.le_of_ble_eq_true rfl)
theorem ldxAbs (aa : Word) : Statement (.ldxAbs aa) := of_operand (Nat.le_of_ble_eq_true rfl)
theorem ldaLong (al : Addr) : Statement (.ldaLong al) := of_operand (Nat.le_of_ble_eq_true rfl)
theorem bcs (disp : Byte) : Statement (.bcs disp) := of_operand (Nat.le_of_ble_eq_true rfl)
theorem ldaIdpy (dd : Byte) : Statement (.ldaIdpy dd) := of_operand (Nat.le_of_ble_eq_true rfl)
theorem ldaIdp (dd : Byte) : Statement (.ldaIdp dd) := of_operand (Nat.le_of_ble_eq_true rfl)
theorem ldaIsry (sr : Byte) : Statement (.ldaIsry sr) := of_operand (Nat.le_of_ble_eq_true rfl)
theorem ldyDpx (dd : Byte) : Statement (.ldyDpx dd) := of_operand (Nat.le_of_ble_eq_true rfl)
theorem ldaDpx (dd : Byte) : Statement (.ldaDpx dd) := of_operand (Nat.le_of_ble_eq_true rfl)
theorem ldxDpy (dd : Byte) : Statement (.ldxDpy dd) := of_operand (Nat.le_of_ble_eq_true rfl)
theorem ldaIldpy (dd : Byte) : Statement (.ldaIldpy dd) := of_operand (Nat.le_of_ble_eq_true rfl)
theorem clv : Statement .clv := of_operand (Nat.le_of_ble_eq_true rfl)
theorem ldaAbsy (aa : Word) : Statement (.ldaAbsy aa) := of_operand (Nat.le_of_ble_eq_true rfl)
theorem tsx : Statement .tsx := of_operand (Nat.le_of_ble_eq_true rfl)
theorem tyx : Statement .tyx := of_operand (Nat.le_of_ble_eq_true rfl)
theorem ldyAbsx (aa : Word) : Statement (.ldyAbsx aa) := of_operand (Nat.le_of_ble_eq_true rfl)
theorem ldaAbsx (aa : Word) : Statement (.ldaAbsx aa) := of_operand (Nat.le_of_ble_eq_true rfl)
theorem ldxAbsy (aa : Word) : Statement (.ldxAbsy aa) := of_operand (Nat.le_of_ble_eq_true rfl)
theorem ldaLongx (al : Addr) : Statement (.ldaLongx al) := of_operand (Nat.le_of_ble_eq_true rfl)
theorem cpyImmX8 (v : Byte) : Statement (.cpyImmX8 v) := of_operand (Nat.le_of_ble_eq_true rfl)
theorem cpyImmX16 (v : Word) : Statement (.cpyImmX16 v) := of_operand (Nat.le_of_ble_eq_true rfl)
theorem cmpIdpx (dd : Byte) : Statement (.cmpIdpx dd) := of_operand (Nat.le_of_ble_eq_true rfl)
theorem rep (k : Byte) : Statement (.rep k) := of_operand (Nat.le_of_ble_eq_true rfl)
theorem cmpSr (sr : Byte) : Statement (.cmpSr sr) := of_operand (Nat.le_of_ble_eq_true rfl)
theorem cpyDp (dd : Byte) : Statement (.cpyDp dd) := of_operand (Nat.le_of_ble_eq_true rfl)
theorem cmpDp (dd : Byte) : Statement (.cmpDp dd) := of_operand (Nat.le_of_ble_eq_true rfl)
theorem decDp (dd : Byte) : Statement (.decDp dd) := of_operand (Nat.le_of_ble_eq_true rfl)
theorem cmpIldp (dd : Byte) : Statement (.cmpIldp dd) := of_operand (Nat.le_of_ble_eq_true rfl)
theorem iny : Statement .iny := of_operand (Nat.le_of_ble_eq_true rfl)
theorem cmpImmM8 (v : Byte) : Statement (.cmpImmM8 v) := of_operand (Nat.le_of_ble_eq_true rfl)
theorem cmpImmM16 (v : Word) : Statement (.cmpImmM16 v) := of_operand (Nat.le_of_ble_eq_true rfl)
theorem dex : Statement .dex := of_operand (Nat.le_of_ble_eq_true rfl)
theorem wai : Statement .wai := of_operand (Nat.le_of_ble_eq_true rfl)
theorem cpyAbs (aa : Word) : Statement (.cpyAbs aa) := of_operand (Nat.le_of_ble_eq_true rfl)
theorem cmpAbs (aa : Word) : Statement (.cmpAbs aa) := of_operand (Nat.le_of_ble_eq_true rfl)
theorem decAbs (aa : Word) : Statement (.decAbs aa) := of_operand (Nat.le_of_ble_eq_true rfl)
theorem cmpLong (al : Addr) : Statement (.cmpLong al) := of_operand (Nat.le_of_ble_eq_true rfl)
theorem bne (disp : Byte) : Statement (.bne disp) := of_operand (Nat.le_of_ble_eq_true rfl)
theorem cmpIdpy (dd : Byte) : Statement (.cmpIdpy dd) := of_operand (Nat.le_of_ble_eq_true rfl)
theorem cmpIdp (dd : Byte) : Statement (.cmpIdp dd) := of_operand (Nat.le_of_ble_eq_true rfl)
theorem cmpIsry (sr : Byte) : Statement (.cmpIsry sr) := of_operand (Nat.le_of_ble_eq_true rfl)
theorem pei (dd : Byte) : Statement (.pei dd) := of_operand (Nat.le_of_ble_eq_true rfl)
theorem cmpDpx (dd : Byte) : Statement (.cmpDpx dd) := of_operand (Nat.le_of_ble_eq_true rfl)
theorem decDpx (dd : Byte) : Statement (.decDpx dd) := of_operand (Nat.le_of_ble_eq_true rfl)
theorem cmpIldpy (dd : Byte) : Statement (.cmpIldpy dd) := of_operand (Nat.le_of_ble_eq_true rfl)
theorem cld : Statement .cld := of_operand (Nat.le_of_ble_eq_true rfl)
theorem cmpAbsy (aa : Word) : Statement (.cmpAbsy aa) := of_operand (Nat.le_of_ble_eq_true rfl)
theorem phx : Statement .phx := of_operand (Nat.le_of_ble_eq_true rfl)
theorem stp : Statement .stp := of_operand (Nat.le_of_ble_eq_true rfl)
theorem jmlIlabs (aa : Word) : Statement (.jmlIlabs aa) := of_operand (Nat.le_of_ble_eq_true rfl)
theorem cmpAbsx (aa : Word) : Statement (.cmpAbsx aa) := of_operand (Nat.le_of_ble_eq_true rfl)
theorem decAbsx (aa : Word) : Statement (.decAbsx aa) := of_operand (Nat.le_of_ble_eq_true rfl)
theorem cmpLongx (al : Addr) : Statement (.cmpLongx al) := of_operand (Nat.le_of_ble_eq_true rfl)
theorem cpxImmX8 (v : Byte) : Statement (.cpxImmX8 v) := of_operand (Nat.le_of_ble_eq_true rfl)
theorem cpxImmX16 (v : Word) : Statement (.cpxImmX16 v) := of_operand (Nat.le_of_ble_eq_true rfl)
theorem sbcIdpx (dd : Byte) : Statement (.sbcIdpx dd) := of_operand (Nat.le_of_ble_eq_true rfl)
theorem sep (k : Byte) : Statement (.sep k) := of_operand (Nat.le_of_ble_eq_true rfl)
theorem sbcSr (sr : Byte) : Statement (.sbcSr sr) := of_operand (Nat.le_of_ble_eq_true rfl)
theorem cpxDp (dd : Byte) : Statement (.cpxDp dd) := of_operand (Nat.le_of_ble_eq_true rfl)
theorem sbcDp (dd : Byte) : Statement (.sbcDp dd) := of_operand (Nat.le_of_ble_eq_true rfl)
theorem incDp (dd : Byte) : Statement (.incDp dd) := of_operand (Nat.le_of_ble_eq_true rfl)
theorem sbcIldp (dd : Byte) : Statement (.sbcIldp dd) := of_operand (Nat.le_of_ble_eq_true rfl)
theorem inx : Statement .inx := of_operand (Nat.le_of_ble_eq_true rfl)
theorem sbcImmM8 (v : Byte) : Statement (.sbcImmM8 v) := of_operand (Nat.le_of_ble_eq_true rfl)
theorem sbcImmM16 (v : Word) : Statement (.sbcImmM16 v) := of_operand (Nat.le_of_ble_eq_true rfl)
theorem nop : Statement .nop := of_operand (Nat.le_of_ble_eq_true rfl)
theorem xba : Statement .xba := of_operand (Nat.le_of_ble_eq_true rfl)
theorem cpxAbs (aa : Word) : Statement (.cpxAbs aa) := of_operand (Nat.le_of_ble_eq_true rfl)
theorem sbcAbs (aa : Word) : Statement (.sbcAbs aa) := of_operand (Nat.le_of_ble_eq_true rfl)
theorem incAbs (aa : Word) : Statement (.incAbs aa) := of_operand (Nat.le_of_ble_eq_true rfl)
theorem sbcLong (al : Addr) : Statement (.sbcLong al) := of_operand (Nat.le_of_ble_eq_true rfl)
theorem beq (disp : Byte) : Statement (.beq disp) := of_operand (Nat.le_of_ble_eq_true rfl)
theorem sbcIdpy (dd : Byte) : Statement (.sbcIdpy dd) := of_operand (Nat.le_of_ble_eq_true rfl)
theorem sbcIdp (dd : Byte) : Statement (.sbcIdp dd) := of_operand (Nat.le_of_ble_eq_true rfl)
theorem sbcIsry (sr : Byte) : Statement (.sbcIsry sr) := of_operand (Nat.le_of_ble_eq_true rfl)
theorem pea (v : Word) : Statement (.pea v) := of_operand (Nat.le_of_ble_eq_true rfl)
theorem sbcDpx (dd : Byte) : Statement (.sbcDpx dd) := of_operand (Nat.le_of_ble_eq_true rfl)
theorem incDpx (dd : Byte) : Statement (.incDpx dd) := of_operand (Nat.le_of_ble_eq_true rfl)
theorem sbcIldpy (dd : Byte) : Statement (.sbcIldpy dd) := of_operand (Nat.le_of_ble_eq_true rfl)
theorem sed : Statement .sed := of_operand (Nat.le_of_ble_eq_true rfl)
theorem sbcAbsy (aa : Word) : Statement (.sbcAbsy aa) := of_operand (Nat.le_of_ble_eq_true rfl)
theorem plx : Statement .plx := of_operand (Nat.le_of_ble_eq_true rfl)
theorem xce : Statement .xce := of_operand (Nat.le_of_ble_eq_true rfl)
theorem jsrIabsx (aa : Word) : Statement (.jsrIabsx aa) := of_operand (Nat.le_of_ble_eq_true rfl)
theorem sbcAbsx (aa : Word) : Statement (.sbcAbsx aa) := of_operand (Nat.le_of_ble_eq_true rfl)
theorem incAbsx (aa : Word) : Statement (.incAbsx aa) := of_operand (Nat.le_of_ble_eq_true rfl)
theorem sbcLongx (al : Addr) : Statement (.sbcLongx al) := of_operand (Nat.le_of_ble_eq_true rfl)

end Sys2Proof.Laws.EncodedShape
end

