-- ==== Sys2Proof/Tests/Slice0.lean ====
section
/-! SUPPORT. The model's own tests. Every expected value is from the spec: the words are written out from the encoding tables,
the steps are vectors of 95_test_vectors.md (the name of a test ends in the vector's number). A witness shows a state and
operands that meet the hypotheses of a statement. -/

namespace Sys2Proof.Tests

open Sys2Proof.Machine Sys2Proof.Claims

/-! ## States -/

/-- Bytes put at addresses. -/
def poke (s : State) (cells : List (Addr × Byte)) : State := cells.foldl (fun s q => s.writeMem q.1 q.2) s

/-- The base states of 95_test_vectors.md, every register 0 but those given, with an instruction at `bank:off`. -/
def at' (e : Bool) (p : Byte) (sp : Word) (bank : Byte) (off : Word) (bytes : List Byte) : State :=
  { State.reset with e := e, p := p, sp := sp, pbr := bank, pc := off }.placeBytes off bytes

/-- `EMU` with an instruction at a given place. -/
def emuAt : Byte → Word → List Byte → State := at' true 0x30 0x01FF

/-- `N8` with an instruction at a given place. -/
def n8At : Byte → Word → List Byte → State := at' false 0x30 0x1FFF

/-- `N16` with an instruction at a given place. -/
def n16At : Byte → Word → List Byte → State := at' false 0x00 0x1FFF

/-- `EMU` with an instruction at 0x008000. -/
def emu : List Byte → State := emuAt 0x00 0x8000

/-- `N8` with an instruction at 0x008000. -/
def n8 : List Byte → State := n8At 0x00 0x8000

/-- `N16` with an instruction at 0x008000. -/
def n16 : List Byte → State := n16At 0x00 0x8000

/-- What a function reads in the next state, if there is one. -/
def peek {α : Type} (o : Outcome) (f : State → α) : Option α :=
  match o with
  | .next t => some (f t)
  | .fault _ => none
  | .refused _ => none

/-- What a function reads in the state after one step. -/
def after {α : Type} (s : State) (f : State → α) : Option α := peek (step s) f

/-- There is a next state. -/
def completes (o : Outcome) : Bool := (peek o (fun _ => ())).isSome

theorem exists_next {o : Outcome} (h : completes o = true) : ∃ t, o = .next t := by
  cases o with
  | next t => exact ⟨t, rfl⟩
  | fault r => cases h
  | refused r => cases h

/-! ## Well-formedness: each check refuses the immediate of the other width (R93, R94) -/

theorem test_wellFormed_immM8 : (Instr.ldaImmM8 0x34).wellFormed true true = true ∧
    (Instr.ldaImmM8 0x34).wellFormed false true = false := by decide

theorem test_wellFormed_immM16 : (Instr.ldaImmM16 0x1234).wellFormed false true = true ∧
    (Instr.ldaImmM16 0x1234).wellFormed true true = false := by decide

theorem test_wellFormed_immX8 : (Instr.ldxImmX8 0x34).wellFormed true true = true ∧
    (Instr.ldxImmX8 0x34).wellFormed true false = false := by decide

theorem test_wellFormed_immX16 : (Instr.ldxImmX16 0x1234).wellFormed true false = true ∧
    (Instr.ldxImmX16 0x1234).wellFormed true true = false := by decide

/-! ## Decoding: words written out from the encodings of 30_encoding.md -/

/-- Formats F1, F2, F3, F4 of the arithmetic family: INC A is 00011010, ADC dp is 01100101, SBC a,Y is 11111001, ADC al is
01101111. -/
theorem test_decode_arithmetic :
    decode true true [0b00011010] = .ok (.incAcc, []) ∧
    decode true true [0b01100101, 0x12] = .ok (.adcDp 0x12, []) ∧
    decode true true [0b11111001, 0x34, 0x12] = .ok (.sbcAbsy 0x1234, []) ∧
    decode true true [0b01101111, 0x56, 0x34, 0x12] = .ok (.adcLong 0x123456, []) := by decide

/-- Logic and shifts: AND sr,S is 00100011, EOR (d),Y is 01010001, ROR a,X is 01111110, TRB a is 00011100, BIT # is 10001001. -/
theorem test_decode_logic :
    decode true true [0b00100011, 0x05] = .ok (.andSr 0x05, []) ∧
    decode true true [0b01010001, 0x10] = .ok (.eorIdpy 0x10, []) ∧
    decode true true [0b01111110, 0x00, 0x20] = .ok (.rorAbsx 0x2000, []) ∧
    decode true true [0b00011100, 0xFF, 0x7F] = .ok (.trbAbs 0x7FFF, []) ∧
    decode false true [0b10001001, 0x01, 0x02] = .ok (.bitImmM16 0x0201, []) := by decide

/-- Compare: CMP [d],Y is 11010111, CPX # is 11100000, CPY a is 11001100. -/
theorem test_decode_compare :
    decode true true [0b11010111, 0x80] = .ok (.cmpIldpy 0x80, []) ∧
    decode true false [0b11100000, 0x20, 0x10] = .ok (.cpxImmX16 0x1020, []) ∧
    decode true true [0b11001100, 0x34, 0x12] = .ok (.cpyAbs 0x1234, []) := by decide

/-- Loads, stores, transfers: LDA (sr,S),Y is 10110011, LDX d,Y is 10110110, STA al,X is 10011111, STZ a is 10011100, TXS is
10011010, XBA is 11101011. -/
theorem test_decode_load_store :
    decode true true [0b10110011, 0x03] = .ok (.ldaIsry 0x03, []) ∧
    decode true true [0b10110110, 0x10] = .ok (.ldxDpy 0x10, []) ∧
    decode true true [0b10011111, 0x01, 0x02, 0x03] = .ok (.staLongx 0x030201, []) ∧
    decode true true [0b10011100, 0x00, 0x21] = .ok (.stzAbs 0x2100, []) ∧
    decode true true [0b10011010] = .ok (.txs, []) ∧
    decode true true [0b11101011] = .ok (.xba, []) := by decide

/-- Control flow and stack: JSR (a,X) is 11111100, JSL is 00100010, BRL is 10000010, COP is 00000010, PEI is 11010100, PHK is
01001011. -/
theorem test_decode_control_stack :
    decode true true [0b11111100, 0x00, 0x90] = .ok (.jsrIabsx 0x9000, []) ∧
    decode true true [0b00100010, 0x00, 0x90, 0x81] = .ok (.jsl 0x819000, []) ∧
    decode true true [0b10000010, 0xFD, 0xFF] = .ok (.brl 0xFFFD, []) ∧
    decode true true [0b00000010, 0x12] = .ok (.cop 0x12, []) ∧
    decode true true [0b11010100, 0x10] = .ok (.pei 0x10, []) ∧
    decode true true [0b01001011] = .ok (.phk, []) := by decide

/-- Mode switch and the rest: SEP is 11100010, XCE is 11111011, MVP is 01000100 with the destination bank first, WAI is
11001011. -/
theorem test_decode_rest :
    decode true true [0b11100010, 0x20] = .ok (.sep 0x20, []) ∧
    decode true true [0b11111011] = .ok (.xce, []) ∧
    decode true true [0b01000100, 0x7F, 0x7E] = .ok (.mvp 0x7F 0x7E, []) ∧
    decode true true [0b11001011] = .ok (.wai, []) := by decide

/-- Bytes that run out are rejected by name. -/
theorem test_decode_truncated : decode false true [0xA9, 0x34] = .error (.truncated 0xA9) := by decide

/-- The host's numbering: `LDA #$1234` as one word. -/
theorem test_decodeTableWord : decodeTableWord 24 0x1234A9 = some (.ldaImmM16 0x1234) ∧
    decodeTableWord 16 0x34A9 = some (.ldaImmM8 0x34) := by decide

/-- The word of a 16-bit immediate, placed on the state after reset, runs as its 16-bit row. -/
theorem test_withFetchWord : after (State.reset.withFetchWord 24 0x1234A9) (fun t => (t.c, t.pc, t.cyc)) =
    some (0x1234, 0x0003, 3) := by decide

/-! ## The parameters of R4 at other values -/

/-- What a function reads in the state after one step at the parameters `P`, and in the count that the step returns. -/
def afterWith {α : Type} (P : Parameters) (s : State) (cyc : BitVec P.cycWidth) (f : StateAt P.cycWidth → Int → α) : Option α :=
  match stepWith P (s.withCyc cyc) with
  | .next (t, n) => some (f t n)
  | .fault _ => none
  | .refused _ => none

/-- The table of R100 with other cells at one opcode byte. -/
def rebound (op : Byte) (cell : TableCell) : OpTable :=
  let t8 (b : Byte) := if b = op then cell else standardCell b
  ⟨t8, standardCell, standardCell⟩

/-- AM06: `DP_E_WRAP` = false. -/
theorem test_parameter_dpEWrap_am06 :
    afterWith { Parameters.std with dpEWrap := false }
      { poke (emu [0xB5, 0xF0]) [(0x000110, 0x66), (0x000010, 0x99)] with x := 0x0020 } 0
      (fun t n => (t.c, t.pc, n)) = some (0x0066, 0x8002, 4) := by decide

/-- AM14: `INDEX_CROSSES_BANK` = true. -/
theorem test_parameter_indexCrossesBank_am14 :
    afterWith { Parameters.std with indexCrossesBank := true }
      { poke (n8 [0xB1, 0x10]) [(0x000010, 0xF0), (0x000011, 0xFF), (0x7E0010, 0x42), (0x7F0010, 0x43)] with
        y := 0x0020, dbr := 0x7E } 0
      (fun t n => (t.c, t.pc, n)) = some (0x0043, 0x8002, 6) := by decide

/-- DC03: `UNIMPL` with 0x42. -/
theorem test_parameter_unimpl_dc03 :
    stepWith { Parameters.std with unimplAlso := [0x42] } ((emu [0x42, 0x00]).withCyc 0) =
      .fault (.unimplementedInstruction 0x42) := rfl

/-- R345: 0xCB fails whatever an `OPTABLE` binds to it. -/
theorem test_parameter_unimpl_holds_wai :
    stepWith { Parameters.std with optable := rebound 0xCB ⟨.nop, .imp⟩ } ((emu [0xCB]).withCyc 0) =
      .fault (.unimplementedInstruction 0xCB) := rfl

/-- R4 `OPTABLE`, `BASE_CYCLES`: BIT bound to `(d),Y` at 0x42, a pair that R100 has not (R184, R134): 9 cycles of base, one for
`DL` (R121). -/
theorem test_parameter_optable_new_pair :
    afterWith { Parameters.std with
        optable := rebound 0x42 ⟨.bit, .idpy⟩
        baseCycles := fun op => if op = 0x42 then 9 else baseCycles op }
      { poke (emu [0x42, 0x0F]) [(0x000010, 0x00), (0x000011, 0x20), (0x002005, 0xC0)] with d := 0x0001, y := 0x0005 } 0
      (fun t n => (t.view.flagN, t.view.flagV, t.view.flagZ, t.pc, n)) = some (true, true, true, 0x8002, 10) := by decide

/-- An operator with no operand of its kind is refused by name; a write to an immediate as R42 says; an operator that takes no
operand runs in any mode (log entry 13). -/
theorem test_parameter_optable_mismatch :
    stepWith { Parameters.std with optable := rebound 0x42 ⟨.and, .imp⟩ } ((emu [0x42]).withCyc 0) =
      .refused (.operandMismatch .and .imp) ∧
    stepWith { Parameters.std with optable := rebound 0x42 ⟨.sta, .immm⟩ } ((emu [0x42]).withCyc 0) =
      .refused .writeToImmediate ∧
    afterWith { Parameters.std with optable := rebound 0x42 ⟨.nop, .abs⟩ } (emu [0x42]) 0 (fun t n => (t.pc, n)) =
      some (0x8003, 2) := ⟨rfl, rfl, by decide⟩

/-- WAI bound to another byte fails with the byte fetched (log entry 13). -/
theorem test_parameter_optable_wai :
    stepWith { Parameters.std with optable := rebound 0x42 ⟨.wai, .imp⟩ } ((emu [0x42]).withCyc 0) =
      .fault (.unimplementedInstruction 0x42) := rfl

/-- R4 `PagePenalty`: the chip's rule (X1 of 93_implementation_defined.md) also charges an index of 16 bits (AM21 without
the crossing). -/
theorem test_parameter_pagePenalty :
    afterWith { Parameters.std with pagePenalty := fun _ _ x crossed => crossed || !x } { n16 [0xBD, 0x00, 0x10] with p := 0x20 } 0
      (fun _ n => n) = some 5 := by decide

/-- R368: `CYC` of 3 bits and of 100 bits; the count returned is that of NOP. -/
theorem test_parameter_cycWidth :
    afterWith { Parameters.std with cycWidth := 3 } (emu [0xEA]) 7 (fun t n => (t.cyc.toNat, n)) = some (1, 2) ∧
    afterWith { Parameters.std with cycWidth := 100 } (emu [0xEA]) 0xFFFFFFFFFFFFFFFF (fun t n => (t.cyc.toNat, n)) =
      some (0x10000000000000001, 2) := by decide

/-- R4 `BcdAdd`, `VEC_BRK_E` and `VEC_RESET` at other values. -/
theorem test_parameter_others :
    afterWith { Parameters.std with bcdAdd := fun _ _ _ _ => ⟨0x0042, true, false⟩ } { emu [0x69, 0x01] with p := 0x38 } 0
      (fun t _ => (t.c, t.p)) = some (0x0042, 0x39) ∧
    afterWith { Parameters.std with vecBrkE := 0x00FFF0 } (poke (emu [0x00, 0x00]) [(0x00FFF1, 0x90)]) 0
      (fun t _ => t.pc) = some 0x9000 ∧
    (resetWith { Parameters.std with vecReset := 0x00FFF0 } ((poke (emu []) [(0x00FFF1, 0x90)]).withCyc 5)).pc = 0x9000 := by
  decide

/-! ## The launch state (R413) -/

/-- Any launch state of zeros, after the host's `reset`, is the reset state of the model. -/
theorem test_launch_reset :
    (Launch.mk 0x0000 (.native16 false 0x0000 0x0000 0x0000) 0x0000 0x00 0x00 0x0000 false false false false false false []
      0).afterReset = State.reset := by decide

/-- RS04: a step before any `reset`. -/
theorem test_launch_rs04 :
    after (Launch.mk 0x0000 (.emulation 0x00 0x00 0xFF) 0x0000 0x00 0x00 0x8000 false false false false false false
      [(0x008000, 0xEA)] 0).state (fun t => (t.pc, t.cyc)) = some (0x8001, 2) := by decide

/-! ## Steps: vectors of the spec -/

/-! ### Addressing modes -/

theorem test_lda_am03 : after { poke (n16 [0xA5, 0xFF]) [(0x00FFFF, 0x34), (0x000000, 0x12)] with d := 0xFF00 }
    (fun t => (t.c, t.pc, t.cyc)) =
    some (0x1234, 0x8002, 4) := by decide

theorem test_lda_am05 : after { poke (emu [0xB5, 0xF0]) [(0x000110, 0x66), (0x000010, 0x99)] with x := 0x0020 }
    (fun t => (t.c, t.p, t.pc, t.cyc)) =
    some (0x0099, 0xB0, 0x8002, 4) := by decide

theorem test_lda_am07 : after { poke (emu [0xB5, 0xF0]) [(0x000111, 0x55)] with x := 0x0020, d := 0x0001 }
    (fun t => (t.c, t.pc, t.cyc)) =
    some (0x0055, 0x8002, 5) := by decide

theorem test_ldx_am08 : after { poke (n8 [0xB6, 0x10]) [(0x000015, 0x81)] with y := 0x0005 }
    (fun t => (t.x, t.p, t.pc, t.cyc)) =
    some (0x0081, 0xB0, 0x8002, 4) := by decide

theorem test_lda_am10 : after
    (poke (emu [0xB2, 0xFF]) [(0x0000FF, 0x00), (0x000000, 0x40), (0x000100, 0x50), (0x004000, 0x11),
      (0x005000, 0x22)])
    (fun t => (t.c, t.pc, t.cyc)) =
    some (0x0011, 0x8002, 5) := by decide

theorem test_lda_am11 : after
    { poke (n8 [0xA1, 0x10]) [(0x000014, 0x00), (0x000015, 0x30), (0x013000, 0x99)] with x := 0x0004, dbr := 0x01 }
    (fun t => (t.c, t.p, t.pc, t.cyc)) =
    some (0x0099, 0xB0, 0x8002, 6) := by decide

theorem test_lda_am13 : after
    { poke (n8 [0xB1, 0x10]) [(0x000010, 0xF0), (0x000011, 0xFF), (0x7E0010, 0x42),
      (0x7F0010, 0x43)] with y := 0x0020, dbr := 0x7E }
    (fun t => (t.c, t.pc, t.cyc)) =
    some (0x0042, 0x8002, 6) := by decide

theorem test_lda_am15 : after
    (poke (n8 [0xA7, 0x10]) [(0x000010, 0x00), (0x000011, 0x30), (0x000012, 0x7F), (0x7F3000, 0x42)])
    (fun t => (t.c, t.pc, t.cyc)) =
    some (0x0042, 0x8002, 6) := by decide

theorem test_lda_am16 : after
    { poke (n16 [0xB7, 0x10]) [(0x000010, 0xF0), (0x000011, 0xFF), (0x000012, 0x7E), (0x7F0010, 0x34),
      (0x7F0011, 0x12)] with y := 0x0020 }
    (fun t => (t.c, t.pc, t.cyc)) =
    some (0x1234, 0x8002, 7) := by decide

theorem test_lda_am18 : after
    { poke (n16 [0xAD, 0xFF, 0xFF]) [(0x7EFFFF, 0x34), (0x7E0000, 0x12), (0x7F0000, 0x99)] with dbr := 0x7E }
    (fun t => (t.c, t.pc, t.cyc)) =
    some (0x1234, 0x8003, 5) := by decide

theorem test_lda_am21 : after { poke (n8 [0xBD, 0x00, 0x10]) [(0x001100, 0x42)] with x := 0x0100, p := 0x20 }
    (fun t => (t.c, t.pc, t.cyc)) =
    some (0x0042, 0x8003, 5) := by decide

theorem test_lda_am23 : after { poke (n8 [0xB9, 0x00, 0x20]) [(0x002005, 0x80)] with y := 0x0005 }
    (fun t => (t.c, t.p, t.pc, t.cyc)) =
    some (0x0080, 0xB0, 0x8003, 4) := by decide

theorem test_lda_am26 : after
    { poke (n16 [0xBF, 0xFF, 0xFF, 0xFF]) [(0x000000, 0x34), (0x000001, 0x12)] with x := 0x0001 }
    (fun t => (t.c, t.pc, t.cyc)) =
    some (0x1234, 0x8004, 6) := by decide

theorem test_lda_am28 : after { poke (emu [0xA3, 0x20]) [(0x000210, 0x42)] with sp := 0x01F0 }
    (fun t => (t.c, t.pc, t.cyc)) =
    some (0x0042, 0x8002, 4) := by decide

theorem test_lda_am29 : after
    { poke (n8 [0xB3, 0x03]) [(0x001FF3, 0x00), (0x001FF4, 0x30),
      (0x7E3002, 0x42)] with y := 0x0002, sp := 0x1FF0, dbr := 0x7E }
    (fun t => (t.c, t.pc, t.cyc)) =
    some (0x0042, 0x8002, 7) := by decide

theorem test_ldx_am32 : after { n8 [0xA2, 0x34, 0x12] with p := 0x20 }
    (fun t => (t.x, t.pc, t.cyc)) =
    some (0x1234, 0x8003, 3) := by decide

/-! ### Arithmetic -/

theorem test_adc_ar03 : after { emu [0x69, 0x01] with c := 0x007F }
    (fun t => (t.c, t.p, t.pc, t.cyc)) =
    some (0x0080, 0xF0, 0x8002, 2) := by decide

theorem test_adc_ar13 : after { n8 [0x69, 0x01, 0x00] with c := 0x1999, p := 0x08 }
    (fun t => (t.c, t.pc, t.cyc)) =
    some (0x2000, 0x8003, 3) := by decide

theorem test_sbc_ar16 : after { emu [0xE9, 0x01] with p := 0x31 }
    (fun t => (t.c, t.p, t.pc, t.cyc)) =
    some (0x00FF, 0xB0, 0x8002, 2) := by decide

theorem test_sbc_ar22 : after { n8 [0xE9, 0x01, 0x00] with c := 0x1000, p := 0x09 }
    (fun t => (t.c, t.pc, t.cyc)) =
    some (0x0999, 0x8003, 3) := by decide

theorem test_inc_ar24 : after (poke (n16 [0xEE, 0x00, 0x20]) [(0x002000, 0xFF), (0x002001, 0x00)])
    (fun t => (t.pc, t.cyc, t.readMem 0x002000, t.readMem 0x002001)) =
    some (0x8003, 8, 0x00, 0x01) := by decide

theorem test_dec_ar27 : after (emu [0x3A])
    (fun t => (t.c, t.p, t.pc, t.cyc)) =
    some (0x00FF, 0xB0, 0x8001, 2) := by decide

theorem test_inx_ar29 : after { emu [0xE8] with x := 0x00FF }
    (fun t => (t.x, t.p, t.pc, t.cyc)) =
    some (0x0000, 0x32, 0x8001, 2) := by decide

theorem test_iny_ar31 : after { n16 [0xC8] with y := 0xFFFF }
    (fun t => (t.y, t.p, t.pc, t.cyc)) =
    some (0x0000, 0x02, 0x8001, 2) := by decide

theorem test_dex_ar32 : after (emu [0xCA])
    (fun t => (t.x, t.p, t.pc, t.cyc)) =
    some (0x00FF, 0xB0, 0x8001, 2) := by decide

theorem test_dey_ar33 : after (n16 [0x88])
    (fun t => (t.y, t.p, t.pc, t.cyc)) =
    some (0xFFFF, 0x80, 0x8001, 2) := by decide

/-! ### Logic, shifts, bit test -/

theorem test_and_lg02 : after { emu [0x29, 0x0F] with c := 0xFFF0 }
    (fun t => (t.c, t.p, t.pc, t.cyc)) =
    some (0xFF00, 0x32, 0x8002, 2) := by decide

theorem test_ora_lg04 : after { emu [0x09, 0x80] with c := 0x000F }
    (fun t => (t.c, t.p, t.pc, t.cyc)) =
    some (0x008F, 0xB0, 0x8002, 2) := by decide

theorem test_eor_lg05 : after { emu [0x49, 0xFF] with c := 0x00FF }
    (fun t => (t.c, t.p, t.pc, t.cyc)) =
    some (0x0000, 0x32, 0x8002, 2) := by decide

theorem test_bit_lg07 : after { emu [0x89, 0xC0] with c := 0x0001 }
    (fun t => (t.p, t.pc, t.cyc)) =
    some (0x32, 0x8002, 2) := by decide

theorem test_bit_lg08 : after { poke (n16 [0x2C, 0x00, 0x20]) [(0x002000, 0x00), (0x002001, 0x40)] with c := 0x4000 }
    (fun t => (t.p, t.pc, t.cyc)) =
    some (0x40, 0x8003, 5) := by decide

theorem test_asl_lg12 : after { poke (n16 [0x1E, 0xF0, 0x20]) [(0x002110, 0x01), (0x002111, 0x80)] with x := 0x0020 }
    (fun t => (t.p, t.pc, t.cyc, t.readMem 0x002110, t.readMem 0x002111)) =
    some (0x01, 0x8003, 9, 0x02, 0x00) := by decide

theorem test_lsr_lg14 : after { n8 [0x4A] with c := 0x0100 }
    (fun t => (t.p, t.pc, t.cyc)) =
    some (0x32, 0x8001, 2) := by decide

theorem test_rol_lg15 : after { emu [0x2A] with c := 0x0040, p := 0x31 }
    (fun t => (t.c, t.p, t.pc, t.cyc)) =
    some (0x0081, 0xB0, 0x8001, 2) := by decide

theorem test_ror_lg18 : after { n8 [0x6A] with c := 0x0001, p := 0x01 }
    (fun t => (t.c, t.p, t.pc, t.cyc)) =
    some (0x8000, 0x81, 0x8001, 2) := by decide

theorem test_tsb_lg21 : after { poke (emu [0x04, 0x10]) [(0x000010, 0xF0)] with c := 0x00F0, p := 0xB0 }
    (fun t => (t.pc, t.cyc, t.readMem 0x000010)) =
    some (0x8002, 5, 0xF0) := by decide

theorem test_trb_lg23 : after { poke (n16 [0x1C, 0x00, 0x20]) [(0x002000, 0x34), (0x002001, 0x12)] with c := 0xFF00 }
    (fun t => (t.pc, t.cyc, t.readMem 0x002000, t.readMem 0x002001)) =
    some (0x8003, 8, 0x34, 0x00) := by decide

/-! ### Compare -/

theorem test_cmp_cp04 : after { emu [0xC9, 0x80] with c := 0x007F, p := 0x71 }
    (fun t => (t.p, t.pc, t.cyc)) =
    some (0xF0, 0x8002, 2) := by decide

theorem test_cpy_cp09 : after { n16 [0xC0, 0x34, 0x12] with y := 0x1234 }
    (fun t => (t.p, t.pc, t.cyc)) =
    some (0x03, 0x8003, 3) := by decide

theorem test_cpx_cp10 : after { poke (n16 [0xEC, 0x00, 0x20]) [(0x002000, 0x02), (0x002001, 0x00)] with x := 0x0001 }
    (fun t => (t.p, t.pc, t.cyc)) =
    some (0x80, 0x8003, 5) := by decide

/-! ### Loads, stores, transfers -/

theorem test_lda_ls01 : after { emu [0xA9, 0x00] with c := 0x1234 }
    (fun t => (t.c, t.p, t.pc, t.cyc)) =
    some (0x1200, 0x32, 0x8002, 2) := by decide

theorem test_sta_ls06 : after { n16 [0x8D, 0xFF, 0xFF] with c := 0x1234, dbr := 0x7E }
    (fun t => (t.pc, t.cyc, t.readMem 0x7E0000, t.readMem 0x7EFFFF)) =
    some (0x8003, 5, 0x12, 0x34) := by decide

theorem test_sta_ls07 : after { n8 [0x9D, 0xF0, 0x12] with c := 0x0042, x := 0x0010 }
    (fun t => (t.pc, t.cyc, t.readMem 0x001300)) =
    some (0x8003, 5, 0x42) := by decide

theorem test_stx_ls10 : after { emu [0x86, 0x10] with x := 0x0042 }
    (fun t => (t.pc, t.cyc, t.readMem 0x000010)) =
    some (0x8002, 3, 0x42) := by decide

theorem test_sty_ls11 : after { n16 [0x8C, 0x00, 0x20] with y := 0x1234 }
    (fun t => (t.pc, t.cyc, t.readMem 0x002000, t.readMem 0x002001)) =
    some (0x8003, 5, 0x34, 0x12) := by decide

theorem test_stz_ls13 : after { poke (emu [0x64, 0x10]) [(0x000010, 0xFF)] with p := 0xB1 }
    (fun t => (t.pc, t.cyc, t.readMem 0x000010)) =
    some (0x8002, 3, 0x00) := by decide

theorem test_tax_ls14 : after { n8 [0xAA] with c := 0x12FF, p := 0x20 }
    (fun t => (t.x, t.pc, t.cyc)) =
    some (0x12FF, 0x8001, 2) := by decide

theorem test_tax_ls15 : after { n8 [0xAA] with c := 0x12FF, p := 0x10 }
    (fun t => (t.x, t.p, t.pc, t.cyc)) =
    some (0x00FF, 0x90, 0x8001, 2) := by decide

theorem test_tay_ls16 : after { emu [0xA8] with y := 0x0055 }
    (fun t => (t.y, t.p, t.pc, t.cyc)) =
    some (0x0000, 0x32, 0x8001, 2) := by decide

theorem test_txa_ls18 : after { n8 [0x8A] with c := 0x1200, x := 0x0080, p := 0x10 }
    (fun t => (t.c, t.pc, t.cyc)) =
    some (0x0080, 0x8001, 2) := by decide

theorem test_tya_ls19 : after { n16 [0x98] with y := 0xABCD }
    (fun t => (t.c, t.p, t.pc, t.cyc)) =
    some (0xABCD, 0x80, 0x8001, 2) := by decide

theorem test_txy_ls20 : after { n16 [0x9B] with x := 0x8000 }
    (fun t => (t.y, t.p, t.pc, t.cyc)) =
    some (0x8000, 0x80, 0x8001, 2) := by decide

theorem test_tyx_ls21 : after { emu [0xBB] with x := 0x0001 }
    (fun t => (t.x, t.p, t.pc, t.cyc)) =
    some (0x0000, 0x32, 0x8001, 2) := by decide

theorem test_tsx_ls22 : after (emu [0xBA])
    (fun t => (t.x, t.p, t.pc, t.cyc)) =
    some (0x00FF, 0xB0, 0x8001, 2) := by decide

theorem test_txs_ls25 : after { emu [0x9A] with x := 0x0080 }
    (fun t => (t.sp, t.pc, t.cyc)) =
    some (0x0180, 0x8001, 2) := by decide

theorem test_txs_ls26 : after { n8 [0x9A] with x := 0x0080 }
    (fun t => (t.sp, t.pc, t.cyc)) =
    some (0x0080, 0x8001, 2) := by decide

theorem test_tcd_ls27 : after { n8 [0x5B] with c := 0x2100 }
    (fun t => (t.d, t.pc, t.cyc)) =
    some (0x2100, 0x8001, 2) := by decide

theorem test_tdc_ls28 : after { n8 [0x7B] with c := 0x0011, d := 0x8000 }
    (fun t => (t.c, t.p, t.pc, t.cyc)) =
    some (0x8000, 0xB0, 0x8001, 2) := by decide

theorem test_tcs_ls30 : after { emu [0x1B] with c := 0x1FEE }
    (fun t => (t.sp, t.pc, t.cyc)) =
    some (0x01EE, 0x8001, 2) := by decide

theorem test_tsc_ls31 : after { emu [0x3B] with c := 0xFFFF }
    (fun t => (t.c, t.pc, t.cyc)) =
    some (0x01FF, 0x8001, 2) := by decide

theorem test_xba_ls33 : after { n16 [0xEB] with c := 0x8000 }
    (fun t => (t.c, t.p, t.pc, t.cyc)) =
    some (0x0080, 0x80, 0x8001, 3) := by decide

/-! ### Control flow -/

theorem test_jmp_cf02 : after (poke (n8At 0x80 0x8000 [0x6C, 0xFF, 0xFF]) [(0x00FFFF, 0x34), (0x000000, 0x12)])
    (fun t => (t.pc, t.cyc)) =
    some (0x1234, 5) := by decide

theorem test_jmp_cf03 : after
    { poke (n16At 0x80 0x8000 [0x7C, 0x00, 0x90]) [(0x809002, 0x78), (0x809003, 0x56)] with x := 0x0002 }
    (fun t => (t.pc, t.cyc)) =
    some (0x5678, 6) := by decide

theorem test_jml_cf05 : after
    (poke (n8At 0x80 0x8000 [0xDC, 0x00, 0x20]) [(0x002000, 0x00), (0x002001, 0x90), (0x002002, 0x81)])
    (fun t => (t.pbr, t.pc, t.cyc)) =
    some (0x81, 0x9000, 6) := by decide

theorem test_jsr_cf07 : after { emu [0x20, 0x34, 0x12] with sp := 0x0100 }
    (fun t => (t.sp, t.pc, t.cyc, t.readMem 0x000100, t.readMem 0x0001FF)) =
    some (0x01FE, 0x1234, 6, 0x80, 0x02) := by decide

theorem test_jsr_cf08 : after
    { poke (n16At 0x80 0x8000 [0xFC, 0x00, 0x90]) [(0x809002, 0x78), (0x809003, 0x56)] with x := 0x0002 }
    (fun t => (t.sp, t.pc, t.cyc, t.readMem 0x001FFE, t.readMem 0x001FFF)) =
    some (0x1FFD, 0x5678, 8, 0x02, 0x80) := by decide

theorem test_jsl_cf10 : after (emuAt 0x80 0x8000 [0x22, 0x00, 0x90, 0x81])
    (fun t => (t.sp, t.pbr, t.pc, t.cyc, t.readMem 0x0001FD, t.readMem 0x0001FE, t.readMem 0x0001FF)) =
    some (0x01FC, 0x81, 0x9000, 8, 0x03, 0x80, 0x80) := by decide

theorem test_rts_cf12 : after { poke (n8 [0x60]) [(0x001FFE, 0xFF), (0x001FFF, 0xFF)] with sp := 0x1FFD }
    (fun t => (t.sp, t.pc, t.cyc)) =
    some (0x1FFF, 0x0000, 6) := by decide

theorem test_rtl_cf13 : after
    { poke (n8At 0x00 0x9000 [0x6B]) [(0x001FFD, 0x03), (0x001FFE, 0x80), (0x001FFF, 0x80)] with sp := 0x1FFC }
    (fun t => (t.sp, t.pbr, t.pc, t.cyc)) =
    some (0x1FFF, 0x80, 0x8004, 6) := by decide

theorem test_rti_cf15 : after
    { poke (emuAt 0x00 0x9000 [0x40]) [(0x0001FD, 0x00), (0x0001FE, 0x03), (0x0001FF, 0x80)] with sp := 0x01FC }
    (fun t => (t.sp, t.pc, t.cyc)) =
    some (0x01FF, 0x8003, 6) := by decide

theorem test_rti_cf16 : after
    { poke (n16At 0x00 0x9000 [0x40]) [(0x001FFC, 0x10), (0x001FFD, 0x03), (0x001FFE, 0x80),
      (0x001FFF, 0x80)] with x := 0x1234, y := 0xFFFF, sp := 0x1FFB }
    (fun t => (t.x, t.y, t.sp, t.pbr, t.p, t.pc, t.cyc)) =
    some (0x0034, 0x00FF, 0x1FFF, 0x80, 0x10, 0x8003, 7) := by decide

theorem test_beq_cf19 : after { emuAt 0x00 0x80F0 [0xF0, 0x7F] with p := 0x32 }
    (fun t => (t.pc, t.cyc)) =
    some (0x8171, 4) := by decide

theorem test_beq_cf20 : after { n8At 0x00 0x80F0 [0xF0, 0x7F] with p := 0x32 }
    (fun t => (t.pc, t.cyc)) =
    some (0x8171, 3) := by decide

theorem test_bne_cf21 : after (emu [0xD0, 0xFE])
    (fun t => (t.pc, t.cyc)) =
    some (0x8000, 3) := by decide

theorem test_bcc_cf23 : after (emuAt 0x00 0xFFFE [0x90, 0x10])
    (fun t => (t.pc, t.cyc)) =
    some (0x0010, 3) := by decide

theorem test_bcs_cf24 : after (emu [0xB0, 0x10])
    (fun t => (t.pc, t.cyc)) =
    some (0x8002, 2) := by decide

theorem test_bmi_cf25 : after { emu [0x30, 0x10] with p := 0xB0 }
    (fun t => (t.pc, t.cyc)) =
    some (0x8012, 3) := by decide

theorem test_bpl_cf26 : after { emu [0x10, 0x10] with p := 0xB0 }
    (fun t => (t.pc, t.cyc)) =
    some (0x8002, 2) := by decide

theorem test_bvc_cf27 : after (emu [0x50, 0x10])
    (fun t => (t.pc, t.cyc)) =
    some (0x8012, 3) := by decide

theorem test_bvs_cf28 : after (emu [0x70, 0x10])
    (fun t => (t.pc, t.cyc)) =
    some (0x8002, 2) := by decide

theorem test_bra_cf30 : after (emuAt 0x00 0x80FE [0x80, 0xFE])
    (fun t => (t.pc, t.cyc)) =
    some (0x80FE, 4) := by decide

theorem test_brl_cf32 : after (emu [0x82, 0xFD, 0xFF])
    (fun t => (t.pc, t.cyc)) =
    some (0x8000, 4) := by decide

theorem test_brk_cf33 : after (poke (n8At 0x80 0x8000 [0x00, 0xEA]) [(0x00FFE6, 0x00), (0x00FFE7, 0x90)])
    (fun t => (t.sp, t.pbr, t.p, t.pc, t.cyc, t.readMem 0x001FFC, t.readMem 0x001FFD, t.readMem 0x001FFE, t.readMem 0x001FFF)) =
    some (0x1FFB, 0x00, 0x34, 0x9000, 8, 0x30, 0x02, 0x80, 0x80) := by decide

theorem test_brk_cf34 : after { poke (emu [0x00, 0xEA]) [(0x00FFFE, 0x00), (0x00FFFF, 0x90)] with p := 0x3B }
    (fun t => (t.sp, t.p, t.pc, t.cyc, t.readMem 0x0001FD, t.readMem 0x0001FE, t.readMem 0x0001FF)) =
    some (0x01FC, 0x37, 0x9000, 7, 0x3B, 0x02, 0x80) := by decide

theorem test_cop_cf35 : after (poke (n16At 0x80 0x8000 [0x02, 0x12]) [(0x00FFE4, 0x00), (0x00FFE5, 0xA0)])
    (fun t => (t.sp, t.pbr, t.p, t.pc, t.cyc, t.readMem 0x001FFC, t.readMem 0x001FFD, t.readMem 0x001FFE, t.readMem 0x001FFF)) =
    some (0x1FFB, 0x00, 0x04, 0xA000, 8, 0x00, 0x02, 0x80, 0x80) := by decide

/-! ### Stack -/

theorem test_pha_sk04 : after { n16 [0x48] with c := 0x1242, sp := 0x0000 }
    (fun t => (t.sp, t.pc, t.cyc, t.readMem 0x000000, t.readMem 0x00FFFF)) =
    some (0xFFFE, 0x8001, 4, 0x12, 0x42) := by decide

theorem test_phx_sk05 : after { n8 [0xDA] with x := 0x0042 }
    (fun t => (t.sp, t.pc, t.cyc, t.readMem 0x001FFF)) =
    some (0x1FFE, 0x8001, 3, 0x42) := by decide

theorem test_phy_sk06 : after { n16 [0x5A] with y := 0x1234 }
    (fun t => (t.sp, t.pc, t.cyc, t.readMem 0x001FFE, t.readMem 0x001FFF)) =
    some (0x1FFD, 0x8001, 4, 0x34, 0x12) := by decide

theorem test_php_sk08 : after { n8 [0x08] with p := 0xC3 }
    (fun t => (t.sp, t.pc, t.cyc, t.readMem 0x001FFF)) =
    some (0x1FFE, 0x8001, 3, 0xC3) := by decide

theorem test_phb_sk09 : after { n8 [0x8B] with dbr := 0x7E }
    (fun t => (t.sp, t.pc, t.cyc, t.readMem 0x001FFF)) =
    some (0x1FFE, 0x8001, 3, 0x7E) := by decide

theorem test_phd_sk11 : after { emu [0x0B] with sp := 0x0100, d := 0x1234 }
    (fun t => (t.sp, t.pc, t.cyc, t.readMem 0x000100, t.readMem 0x0001FF)) =
    some (0x01FE, 0x8001, 4, 0x12, 0x34) := by decide

theorem test_phk_sk12 : after (n8At 0x80 0x8000 [0x4B])
    (fun t => (t.sp, t.pc, t.cyc, t.readMem 0x001FFF)) =
    some (0x1FFE, 0x8001, 3, 0x80) := by decide

theorem test_pla_sk15 : after (poke (emu [0x68]) [(0x000100, 0x42), (0x000200, 0x99)])
    (fun t => (t.c, t.sp, t.pc, t.cyc)) =
    some (0x0042, 0x0100, 0x8001, 4) := by decide

theorem test_plx_sk16 : after { poke (n16 [0xFA]) [(0x001FFE, 0x34), (0x001FFF, 0x12)] with sp := 0x1FFD }
    (fun t => (t.x, t.sp, t.pc, t.cyc)) =
    some (0x1234, 0x1FFF, 0x8001, 5) := by decide

theorem test_ply_sk17 : after { poke (n8 [0x7A]) [(0x001FFF, 0x00)] with sp := 0x1FFE }
    (fun t => (t.sp, t.p, t.pc, t.cyc)) =
    some (0x1FFF, 0x32, 0x8001, 4) := by decide

theorem test_plp_sk18 : after { poke (n16 [0x28]) [(0x001FFF, 0x10)] with x := 0x1234, y := 0xFFFF, sp := 0x1FFE }
    (fun t => (t.x, t.y, t.sp, t.p, t.pc, t.cyc)) =
    some (0x0034, 0x00FF, 0x1FFF, 0x10, 0x8001, 4) := by decide

theorem test_plp_sk19 : after { poke (emu [0x28]) [(0x0001FF, 0x00)] with sp := 0x01FE }
    (fun t => (t.sp, t.pc, t.cyc)) =
    some (0x01FF, 0x8001, 4) := by decide

theorem test_plb_sk21 : after { poke (n8 [0xAB]) [(0x001FFF, 0x80)] with sp := 0x1FFE }
    (fun t => (t.sp, t.dbr, t.p, t.pc, t.cyc)) =
    some (0x1FFF, 0x80, 0xB0, 0x8001, 4) := by decide

theorem test_pld_sk22 : after { poke (n8 [0x2B]) [(0x001FFE, 0x00), (0x001FFF, 0x21)] with sp := 0x1FFD }
    (fun t => (t.sp, t.d, t.pc, t.cyc)) =
    some (0x1FFF, 0x2100, 0x8001, 5) := by decide

theorem test_pea_sk23 : after (n8 [0xF4, 0x34, 0x12])
    (fun t => (t.sp, t.pc, t.cyc, t.readMem 0x001FFE, t.readMem 0x001FFF)) =
    some (0x1FFD, 0x8003, 5, 0x34, 0x12) := by decide

theorem test_pei_sk25 : after (poke (emu [0xD4, 0xFF]) [(0x0000FF, 0x34), (0x000100, 0x12), (0x000000, 0x99)])
    (fun t => (t.sp, t.pc, t.cyc, t.readMem 0x0001FE, t.readMem 0x0001FF)) =
    some (0x01FD, 0x8002, 6, 0x34, 0x12) := by decide

theorem test_per_sk27 : after (n8 [0x62, 0xFD, 0xFF])
    (fun t => (t.sp, t.pc, t.cyc, t.readMem 0x001FFE, t.readMem 0x001FFF)) =
    some (0x1FFD, 0x8003, 6, 0x00, 0x80) := by decide

/-! ### Mode switch and flags -/

theorem test_rep_ms01 : after { n8 [0xC2, 0x30] with p := 0x34 }
    (fun t => (t.p, t.pc, t.cyc)) =
    some (0x04, 0x8002, 3) := by decide

theorem test_rep_ms02 : after { emu [0xC2, 0x30] with p := 0x34 }
    (fun t => (t.pc, t.cyc)) =
    some (0x8002, 3) := by decide

theorem test_sep_ms05 : after { n16 [0xE2, 0x10] with x := 0x1234, y := 0xFFFF }
    (fun t => (t.x, t.y, t.p, t.pc, t.cyc)) =
    some (0x0034, 0x00FF, 0x10, 0x8002, 3) := by decide

theorem test_xce_ms08 : after (emu [0xFB])
    (fun t => (t.p, t.e, t.pc, t.cyc)) =
    some (0x31, false, 0x8001, 2) := by decide

theorem test_xce_ms09 : after { n8 [0xFB] with c := 0xABCD, x := 0x1234, y := 0x5678, sp := 0x1FF0, p := 0x01 }
    (fun t => ((t.x, t.y, t.sp, t.p), t.e, t.pc, t.cyc)) =
    some ((0x0034, 0x0078, 0x01F0, 0x30), true, 0x8001, 2) := by decide

theorem test_clc_ms12 : after { emu [0x18] with p := 0xFF }
    (fun t => (t.p, t.pc, t.cyc)) =
    some (0xFE, 0x8001, 2) := by decide

theorem test_sec_ms13 : after (emu [0x38])
    (fun t => (t.p, t.pc, t.cyc)) =
    some (0x31, 0x8001, 2) := by decide

theorem test_cld_ms14 : after { emu [0xD8] with p := 0x38 }
    (fun t => (t.p, t.pc, t.cyc)) =
    some (0x30, 0x8001, 2) := by decide

theorem test_sed_ms15 : after (emu [0xF8])
    (fun t => (t.p, t.pc, t.cyc)) =
    some (0x38, 0x8001, 2) := by decide

theorem test_cli_ms16 : after { emu [0x58] with p := 0x34 }
    (fun t => (t.p, t.pc, t.cyc)) =
    some (0x30, 0x8001, 2) := by decide

theorem test_sei_ms17 : after (emu [0x78])
    (fun t => (t.p, t.pc, t.cyc)) =
    some (0x34, 0x8001, 2) := by decide

theorem test_clv_ms18 : after { emu [0xB8] with p := 0x70 }
    (fun t => (t.p, t.pc, t.cyc)) =
    some (0x30, 0x8001, 2) := by decide

/-! ### Block move -/

theorem test_mvn_bm01 : after
    { poke (n16 [0x54, 0x7F, 0x7E]) [(0x7E1000, 0xAA), (0x7E1001, 0xBB),
      (0x7E1002, 0xCC)] with c := 0x0002, x := 0x1000, y := 0x2000 }
    (fun t => (t.c, t.x, t.y, t.dbr, t.pc, t.cyc, t.readMem 0x7F2000)) =
    some (0x0001, 0x1001, 0x2001, 0x7F, 0x8000, 7, 0xAA) := by decide

theorem test_mvn_bm06 : after { poke (n16 [0x54, 0x01, 0x00]) [(0x00FFFF, 0x77)] with x := 0xFFFF, y := 0xFFFF }
    (fun t => (t.c, t.x, t.y, t.dbr, t.pc, t.cyc, t.readMem 0x01FFFF)) =
    some (0xFFFF, 0x0000, 0x0000, 0x01, 0x8003, 7, 0x77) := by decide

/-! ### NOP and WDM -/

theorem test_wdm_np02 : after (emu [0x42, 0xFF])
    (fun t => (t.pc, t.cyc)) =
    some (0x8002, 2) := by decide

/-! ### Decoding and the cycle accumulator -/

theorem test_nop_dc01 : after { emu [0xEA] with cyc := 18446744073709551615 }
    (fun t => (t.pc, t.cyc)) =
    some (0x8001, 1) := by decide

theorem test_ldy_dc06 : after { n8 [0xA0, 0x34, 0x12] with p := 0x10 }
    (fun t => (t.y, t.pc, t.cyc)) =
    some (0x0034, 0x8002, 2) := by decide

theorem test_lda_dc10 : after (poke (n8At 0x80 0xFFFF [0xAD, 0x34, 0x12]) [(0x001234, 0x77)])
    (fun t => (t.c, t.pc, t.cyc)) =
    some (0x0077, 0x0002, 4) := by decide

/-- The first step of BM04. -/
theorem test_mvp_bm04 : after
      { poke (n16 [0x44, 0x00, 0x00]) [(0x000010, 0x11), (0x000011, 0x22)] with c := 0x0001, x := 0x0011, y := 0x0021 }
    (fun t => (t.c, t.x, t.y, t.pc, t.cyc, t.readMem 0x000021)) =
    some (0x0000, 0x0010, 0x0020, 0x8000, 7, 0x22) := by decide

theorem test_wai_np03 : step (emu [0xCB]) = .fault (.unimplementedInstruction 0xCB) := rfl

theorem test_stp_np04 : step (n16 [0xDB]) = .fault (.unimplementedInstruction 0xDB) := rfl

theorem test_reset_rs01 :
    (let s : State := poke { State.reset with
        e := false, p := 0xCB, c := 0xBEEF, x := 0x1234, y := 0x5678, sp := 0x1FF0, pbr := 0x80, cyc := 500 }
      [(0x00FFFC, 0x00), (0x00FFFD, 0x80), (0x80FFFC, 0x11), (0x80FFFD, 0x11)]
     let t := hostReset s
     (t.p, t.c, t.x, t.y, t.sp, t.pc, t.cyc) = (0xF7, 0xBEEF, 0x0034, 0x0078, 0x01F0, 0x8000, 0)) := by decide

theorem test_setProgramCounter_rs03 :
    (hostSetProgramCounter { emu [] with pbr := 0x7E, pc := 0x1234 } 0x8000).pc = 0x8000 ∧
    (hostSetProgramCounter { emu [] with pbr := 0x7E, pc := 0x1234 } 0x8000).pbr = 0x7E := by decide

/-- The return value of `step` is what it added to `CYC`: NOP at `CYC` = 1000 (DC02). -/
theorem test_stepCount_dc02 : after { emu [0xEA] with cyc := 1000 } (fun t => stepCount { emu [0xEA] with cyc := 1000 } t) =
    some 2 := by decide

/-! ## Witnesses: a state and operands that meet the hypotheses of each statement -/

theorem witness_DecodeOfEncode : (Instr.ldaImmM16 0x1234).wellFormed false true = true ∧
    (Instr.ldxImmX8 0xFF).wellFormed true true = true ∧ (Instr.mvn 0x7F 0x7E).wellFormed true true = true := by decide

theorem witness_EncodeOfDecode :
    decode true true [0xBF, 0xFF, 0xFF, 0xFF, 0xEA] = .ok (.ldaLongx 0xFFFFFF, [0xEA]) := by decide

/-- One witness for each clause: MIMM at both widths, XIMM at both widths, any other opcode. -/
theorem witness_LengthFollowsTheLiveFlags :
    (decode true false [0xE9, 0x01, 0x02, 0x03] = .ok (.sbcImmM8 0x01, [0x02, 0x03]) ∧ (Instr.sbcImmM8 0x01).length = 2) ∧
    (decode false false [0x09, 0x01, 0x02, 0x03] = .ok (.oraImmM16 0x0201, [0x03]) ∧ (Instr.oraImmM16 0x0201).length = 3) ∧
    (decode false true [0xE0, 0x01, 0x02, 0x03] = .ok (.cpxImmX8 0x01, [0x02, 0x03]) ∧ (Instr.cpxImmX8 0x01).length = 2) ∧
    (decode true false [0xA0, 0x01, 0x02, 0x03] = .ok (.ldyImmX16 0x0201, [0x03]) ∧ (Instr.ldyImmX16 0x0201).length = 3) ∧
    decode true false [0xFF, 0x01, 0x02, 0x03] = .ok (.sbcLongx 0x030201, []) := by decide

/-- The last offset of a bank: the operand byte is fetched from offset 0. -/
theorem witness_StepRunsTheDecodedInstruction :
    (let s := emuAt 0x80 0xFFFF [0x69, 0x34]
     decode s.flagM s.flagX [s.readMem (addr s.pbr s.pc), s.readMem (addr s.pbr (s.pc + 1)),
       s.readMem (addr s.pbr (s.pc + 2)), s.readMem (addr s.pbr (s.pc + 3))] = .ok (.adcImmM8 0x34, [0x00, 0x00])) := by
  decide

/-- One witness for each clause. -/
theorem witness_StepCompletesOrIsUnimplemented :
    (emu [0xFF]).readMem (addr (emu [0xFF]).pbr (emu [0xFF]).pc) ∉ [0xCB, 0xDB] ∧
    (emu [0xCB]).readMem (addr (emu [0xCB]).pbr (emu [0xCB]).pc) ∈ [0xCB, 0xDB] ∧
    (emu [0xDB]).readMem (addr (emu [0xDB]).pbr (emu [0xDB]).pc) ∈ [0xCB, 0xDB] ∧
    (∃ t, step (emu [0xFF]) = .next t) ∧
    (let u : StateAt 64 := (emu [0x42]).atWidth
     u.view.readMem (addr u.pbr u.pc) ∈ [0xCB, 0xDB] ++ ({ Parameters.std with unimplAlso := [0x42] } : Parameters).unimplAlso) :=
  ⟨by decide, by decide, by decide, exists_next (by decide), by decide⟩

theorem witness_WaiAndStpFail : (0xCB : Byte) ∈ [(0xCB : Byte), 0xDB] ∧
    (emu [0xCB]).atWidth.view.readMem (addr (emu [0xCB]).atWidth.pbr (emu [0xCB]).atWidth.pc) = 0xCB ∧
    (0xDB : Byte) ∈ [(0xCB : Byte), 0xDB] ∧
    (emu [0xDB]).atWidth.view.readMem (addr (emu [0xDB]).atWidth.pbr (emu [0xDB]).atWidth.pc) = 0xDB := by decide

theorem witness_CycleCountByPenaltyClass : (Instr.aslAbsx 0x20F0).mnemonic ∉ [.wai, .stp] ∧
    ∃ t n, stepWith { Parameters.std with cycWidth := 3 } ((emu [0xEA]).withCyc 7) = .next (t, n) :=
  ⟨by decide, _, _, rfl⟩

/-- Both ends of the range: NOP costs 2, a 16-bit `ASL a,X` costs 9 (LG12). -/
theorem witness_EveryInstructionCostsTwoToNineCycles :
    (∃ t, exec .nop (emu []) = .next t) ∧ ∃ t, exec (.aslAbsx 0x20F0) (n16 []) = .next t :=
  ⟨exists_next (by decide), exists_next (by decide)⟩

theorem witness_StepKeepsInvariants : ∃ s t, Inv s ∧ step s = .next t := by
  obtain ⟨t, h⟩ := exists_next (o := step { n16 [0xFB] with p := 0x01, x := 0x1234, sp := 0x1FF0 }) (by decide)
  exact ⟨_, t, by decide, h⟩

/-- The last two clauses: a state that meets the invariants, and a run of one step. -/
theorem witness_RunsFromHostResetKeepInvariants : Inv { emu [] with sp := 0x0100 } ∧
    ∃ (s t : State) (n : Nat), 0 < n ∧ s.mem.wf = true ∧ Sys2Proof.core.run n (hostReset s) = .next t :=
  ⟨by decide, n16 [], _, 1, by decide, by decide, rfl⟩

theorem witness_LoadedImageGivesResetVector : (List.replicate 0x8000 (0x80 : Byte)).length = 0x8000 ∧
    (List.replicate 0x8000 (0x80 : Byte))[0x7FFC]? = some 0x80 ∧
    (List.replicate 0x8000 (0x80 : Byte))[0x7FFD]? = some 0x80 := by
  refine ⟨List.length_replicate, ?_, ?_⟩ <;> rw [List.getElem?_replicate, if_pos (by decide)]

theorem witness_MemoryReturnsTheLastWrite : (emu [0xEA]).mem.wf = true := by decide

theorem witness_AdcResult : (Instr.adcIsry 0x03).opcode ∈
    [0x61, 0x63, 0x65, 0x67, 0x69, 0x6D, 0x6F, 0x71, 0x72, 0x73, 0x75, 0x77, 0x79, 0x7D, 0x7F] := by decide

theorem witness_SbcResult : (Instr.sbcImmM16 0x0001).opcode ∈
    [0xE1, 0xE3, 0xE5, 0xE7, 0xE9, 0xED, 0xEF, 0xF1, 0xF2, 0xF3, 0xF5, 0xF7, 0xF9, 0xFD, 0xFF] := by decide

theorem witness_OverflowIsSignedOverflow :
    ((Instr.adcImmM8 0x01).mnemonic ∈ [.adc, .sbc] ∧ (emu []).flagD = false) ∧
    (Instr.sbcImmM8 0x01).mnemonic ∈ [.adc, .sbc] := by decide

/-- Valid BCD in both operands: ADC of 99 and 01 in two digits (AR10). -/
theorem witness_DecimalResultOfValidDigits_adc :
    ({ emu [] with c := 0x0099, p := 0x38 } : State).flagD = true ∧
    modeLoc .adc (.immM8 0x01) { emu [] with c := 0x0099, p := 0x38 } = some ⟨2, .imm 0x01, 0⟩ ∧
    validBcd (digits true) (acc { emu [] with c := 0x0099, p := 0x38 }) = true ∧
    validBcd (digits true) (value { emu [] with c := 0x0099, p := 0x38 } (.imm 0x01) true) = true := by decide

/-- SBC of 1000 and 0001 in four digits (AR22). -/
theorem witness_DecimalResultOfValidDigits_sbc :
    ({ n16 [] with c := 0x1000, p := 0x09 } : State).flagD = true ∧
    modeLoc .sbc (.immM16 0x0001) { n16 [] with c := 0x1000, p := 0x09 } = some ⟨3, .imm 0x0001, 1⟩ ∧
    validBcd (digits false) (acc { n16 [] with c := 0x1000, p := 0x09 }) = true ∧
    validBcd (digits false) (value { n16 [] with c := 0x1000, p := 0x09 } (.imm 0x0001) false) = true := by decide

theorem witness_IncDecMemory : (Instr.incAbsx 0x20F0).opcode ∈ [0xE6, 0xEE, 0xF6, 0xFE, 0xC6, 0xCE, 0xD6, 0xDE] ∧
    (Instr.decDp 0x10).opcode ∈ [0xE6, 0xEE, 0xF6, 0xFE, 0xC6, 0xCE, 0xD6, 0xDE] := by decide

theorem witness_ShiftsOfMemory : (Instr.rorAbsx 0x20F0).opcode ∈ [0x06, 0x0E, 0x16, 0x1E, 0x46, 0x4E, 0x56, 0x5E, 0x26, 0x2E,
    0x36, 0x3E, 0x66, 0x6E, 0x76, 0x7E] := by decide

theorem witness_TestAndSetBits : (Instr.tsbDp 0x10).opcode ∈ [0x04, 0x0C, 0x14, 0x1C] ∧
    (Instr.trbAbs 0x2000).opcode ∈ [0x04, 0x0C, 0x14, 0x1C] := by decide

/-- A memory form and the immediate form. -/
theorem witness_BitTest : (Instr.bitAbsx 0x20F0).opcode ∈ [0x24, 0x2C, 0x34, 0x3C, 0x89] ∧
    (Instr.bitImmM8 0xC0).opcode ∈ [0x24, 0x2C, 0x34, 0x3C, 0x89] := by decide

theorem witness_LogicalResult : (Instr.andIldpy 0x10).mnemonic ∈ [.and, .ora, .eor] ∧
    (Instr.oraImmM8 0x80).mnemonic ∈ [.and, .ora, .eor] ∧ (Instr.eorSr 0x01).mnemonic ∈ [.and, .ora, .eor] := by decide

theorem witness_CompareFlags : (Instr.cmpIdpy 0x10).mnemonic ∈ [.cmp, .cpx, .cpy] ∧
    (Instr.cpxImmX16 0x0020).mnemonic ∈ [.cmp, .cpx, .cpy] ∧ (Instr.cpyDp 0x10).mnemonic ∈ [.cmp, .cpx, .cpy] := by decide

/-- One witness for each clause. -/
theorem witness_Loads : (Instr.ldaLong 0xFFFFFF).mnemonic = .lda ∧ (Instr.ldxDpy 0x10).mnemonic = .ldx ∧
    (Instr.ldyAbsx 0x20F0).mnemonic = .ldy := by decide

theorem witness_Stores : (Instr.staIsry 0x03).mnemonic ∈ [.sta, .stx, .sty, .stz] ∧
    (Instr.stxDpy 0x10).mnemonic ∈ [.sta, .stx, .sty, .stz] ∧ (Instr.styAbs 0xFFFF).mnemonic ∈ [.sta, .stx, .sty, .stz] ∧
    (Instr.stzAbsx 0x20F0).mnemonic ∈ [.sta, .stx, .sty, .stz] := by decide

/-- The boundary of invariant IS: emulation mode with the stack pointer at the bottom of page 0x01; both calls. -/
theorem witness_ReturnUndoesTheCall : InvIS { emu [] with sp := 0x0100 } ∧ InvIS (n16 []) ∧
    (Instr.jsrIabsx 0x9000).mnemonic ∈ [.jsr, .jsl] ∧ (Instr.jsl 0x819000).mnemonic ∈ [.jsr, .jsl] := by decide

theorem witness_RtiUndoesTheTrap : Inv { emu [] with sp := 0x0100 } ∧ Inv (n16 []) ∧
    (Instr.brk 0xEA).mnemonic ∈ [.brk, .cop] ∧ (Instr.cop 0x12).mnemonic ∈ [.brk, .cop] := by decide

theorem witness_RepAndSep : InvIS { emu [] with sp := 0x0100 } ∧ InvIS (n16 []) := by decide

/-- A change of mode in each direction and an exchange of equal bits (MS08 to MS11). -/
theorem witness_ExchangeCarryAndEmulation : Inv (emu []) ∧ Inv { n16 [] with p := 0x01, x := 0x1234 } ∧ Inv (n16 []) ∧
    Inv { emu [] with p := 0x31 } := by decide

/-- Counts 0 and 0xFFFF; different banks. -/
theorem witness_BlockMoveOfNPlusOneBytes : InvIX (n16 []) ∧ InvIX { n8 [] with c := 0xFFFF, x := 0x00FF } ∧
    (0x7F : Byte) ≠ 0x7E := by decide

/-- One witness for each clause: an instruction that changes the register or the flag. -/
theorem witness_WritersOfSystemRegisters :
    peek (exec .tcd { n8 [] with c := 0x2100 }) (fun t => decide (t.d ≠ (n8 []).d)) = some true ∧
    peek (exec (.mvn 0x7F 0x7E) (n8 [])) (fun t => decide (t.dbr ≠ (n8 []).dbr)) = some true ∧
    peek (exec (.jsl 0x819000) (n8 [])) (fun t => decide (t.pbr ≠ (n8 []).pbr)) = some true ∧
    peek (exec .rti (poke (n8 []) [(0x002003, 0x80)])) (fun t => decide (t.pbr ≠ (n8 []).pbr)) = some true ∧
    peek (exec .xce (emu [])) (fun t => decide (t.e ≠ (emu []).e)) = some true ∧
    peek (exec (.rep 0x30) (n8 [])) (fun t => decide (t.flagM ≠ (n8 []).flagM ∨ t.flagX ≠ (n8 []).flagX)) = some true ∧
    peek (exec .sed (n8 [])) (fun t => decide (t.flagD ≠ (n8 []).flagD)) = some true ∧
    peek (exec (.brk 0x00) (n8 [])) (fun t => decide (t.flagI ≠ (n8 []).flagI)) = some true := by decide

theorem witness_FrozenHalfOfTheAccumulator : (emu []).flagM = true ∧
    (∃ t, exec (.ldaImmM8 0x00) { emu [] with c := 0x1234 } = .next t) ∧
    (Instr.ldaImmM8 0x00).mnemonic ∉ [.xba, .tdc, .tsc, .mvn, .mvp] :=
  ⟨by decide, exists_next (by decide), by decide⟩

/-- One witness for each clause; a pushed byte outside the vector, and one in it. -/
theorem witness_InterruptFlagGatesNothing :
    (Instr.adcDp 0x10).mnemonic ∉ [.wai, .stp] ∧ (Instr.adcDp 0x10).mnemonic ∉ [.php, .brk, .cop] ∧
    (Instr.cop 0x00).mnemonic ∉ [.wai, .stp] ∧ (Instr.cop 0x00).mnemonic ∈ [.php, .brk, .cop] ∧
    pushedAt (n8 []) 3 ∉ [(0x00FFE4 : Addr), 0x00FFE4 + 1] ∧
    pushedAt { n8 [] with sp := 0xFFE7 } 3 ∈ [(0x00FFE4 : Addr), 0x00FFE4 + 1] := by decide

/-- An instruction of another kind, and a shift in its accumulator form. -/
theorem witness_OtherInstructionsKeepMemory :
    (∃ t, exec (.ldaDp 0x10) (n16 []) = .next t) ∧ (∃ t, exec .aslAcc (n16 []) = .next t) ∧
    (∀ i ∈ [Instr.ldaDp 0x10, .aslAcc],
      i.mnemonic ∉ [.sta, .stx, .sty, .stz, .tsb, .trb, .pha, .phx, .phy, .php, .phb, .phd, .phk, .pea, .pei, .per, .jsr,
        .jsl, .brk, .cop, .mvn, .mvp] ∧
      (i.mnemonic ∈ [.asl, .lsr, .rol, .ror, .inc, .dec] → i.operand = .acc)) :=
  ⟨exists_next (by decide), exists_next (by decide), by decide⟩

end Sys2Proof.Tests
end

/-! PROOFS. Which steps complete, and the results of ADC and SBC: the binary adders and the digit-serial decimal ones in the
words of the statements, and what writing an adder's answer leaves. -/

namespace Sys2Proof.Machine

open Sys2Proof.Claims

/-! ### Steps -/

theorem branchWith_completes (op : Byte) (taken : Bool) (f : Formed Word) (s : State) :
    ∃ t, chargeCycles (branchWith op taken f s) = .next t := by
  cases taken <;> exact ⟨_, rfl⟩

/-- R16: every instruction but WAI and STP completes, from every state. -/
theorem exec_completes {i : Instr} (h : i.mnemonic ∉ [.wai, .stp]) (s : State) : ∃ t, exec i s = .next t := by
  cases i
  case wai | stp => exact absurd (by decide) h
  case bpl | bmi | bvc | bvs | bcc | bcs | bne | beq => exact branchWith_completes _ _ _ s
  all_goals exact ⟨_, rfl⟩

/-- R100: WAI and STP have one row each. -/
theorem opcode_of_mnemonic_wai_stp {i : Instr} (h : i.mnemonic ∈ [.wai, .stp]) : i.opcode ∈ [(0xCB : Byte), 0xDB] := by
  cases i
  case wai | stp => decide
  all_goals exact absurd h (of_decide_eq_false rfl)

theorem fetch_zero (s : State) : s.fetch 0 = s.readMem (addr s.pbr s.pc) := by
  simp [State.fetch]

/-- R381: the entries that are not coded are those of `UNIMPL`. -/
theorem unimplementedEntry_iff (op : Byte) (P : Parameters) : unimplementedEntry op P = true ↔ op ∈ P.unimpl :=
  List.contains_iff_mem

/-- R381: a step that fetches a byte of `UNIMPL` fails, at any parameters. -/
theorem stepWith_unimplemented {P : Parameters} {u : StateAt P.cycWidth} (h : u.view.fetch 0 ∈ P.unimpl) :
    stepWith P u = .fault (.unimplementedInstruction (u.view.fetch 0)) :=
  if_pos ((unimplementedEntry_iff _ P).mpr h)

/-- R16, R360: a step that fetches no byte of the default `UNIMPL` completes. -/
theorem step_completes {s : State} (h : s.fetch 0 ∉ Parameters.std.unimpl) : ∃ t, step s = .next t := by
  rcases step_eq s with ⟨hu, -⟩ | ⟨-, i, hi, hs⟩
  · exact absurd ((unimplementedEntry_iff _ _).mp hu) h
  · rw [hs]
    refine exec_completes (fun hm => h ?_) s
    obtain ⟨hop, -, -⟩ := selected_of_fetchInstr hi
    rw [← hop]
    exact opcode_of_mnemonic_wai_stp hm

/-- R16, R381: a step that fetches a byte of the default `UNIMPL` fails. -/
theorem step_unimplemented {s : State} (h : s.fetch 0 ∈ Parameters.std.unimpl) :
    step s = .fault (.unimplementedInstruction (s.fetch 0)) :=
  if_pos ((unimplementedEntry_iff _ _).mpr h)

/-- Settles O7: outside `UNIMPL` the decoded instruction is neither WAI nor STP, and every other one completes. -/
theorem stepCompletesOrIsUnimplemented : Obligations.StepCompletesOrIsUnimplemented := by
  unfold Obligations.StepCompletesOrIsUnimplemented
  simp only [← fetch_zero]
  refine ⟨fun s => ⟨step_completes, step_unimplemented, fun t => stepWith_std⟩, fun P u h => ?_⟩
  rw [show addr u.pbr u.pc = addr u.view.pbr u.view.pc from rfl, ← fetch_zero] at h ⊢
  exact stepWith_unimplemented h

/-! ### Overflow and the binary adders -/

/-- R12: `a` and `b` have the same sign bit and the result has the other. -/
theorem overflowBit_eq (w : Width) (a b r : Nat) :
    overflowBit w a b r = (a.testBit (w.bits - 1) == b.testBit (w.bits - 1) &&
      a.testBit (w.bits - 1) != r.testBit (w.bits - 1)) := by
  unfold overflowBit
  cases a.testBit (w.bits - 1) <;> cases b.testBit (w.bits - 1) <;> cases r.testBit (w.bits - 1) <;> rfl

theorem addBin_overflow (w : Width) (a b : Word) (c : Bool) :
    (addBin w a b c).overflow = overflowBit w a.toNat b.toNat ((a.toNat + b.toNat + c.toNat) % 2 ^ w.bits) := rfl

/-- R13: the sign bit of the ones complement of a value that fits the width. -/
theorem complement_testBit_top (w : Width) {b : Word} (h : b.toNat < 2 ^ w.bits) :
    (complement w b).toNat.testBit (w.bits - 1) = !b.toNat.testBit (w.bits - 1) := by
  rw [complement_toNat w h, Nat.sub_sub, Nat.add_comm 1, Nat.testBit_two_pow_sub_succ h]
  cases w <;> simp [Width.bits]

/-- R13: the difference with the borrow, modulo the width. -/
theorem subBin_value (w : Width) {a b : Word} (c : Bool) (hb : b.toNat < 2 ^ w.bits) :
    (subBin w a b c).value.toNat = (a.toNat + 2 ^ w.bits - b.toNat - (1 - c.toNat)) % 2 ^ w.bits := by
  rw [subBin, addBin_value, complement_toNat w hb]
  have := c.toNat_le
  congr 1
  omega

/-! ### Decimal arithmetic, digit by digit -/

/-- What a decimal digit becomes, from the sum of the two digits and the carry in: the adjusted digit and the carry out. -/
abbrev DigitRule := Nat → Nat × Bool

/-- R162: 6 is added to a digit above 9. -/
def addRule : DigitRule := fun sum =>
  let digit := if 9 < sum then sum + 6 else sum
  (digit, decide (15 < digit))

/-- R164: 6 is taken (10 added, modulo 16) from a digit that gives no carry. -/
def subRule : DigitRule := fun sum => (if sum ≤ 15 then sum + 10 else sum, decide (15 < sum))

/-- The digit-serial scheme that `decAdd` and `decSub` share: value, carry out, and the top digit's sum. -/
def serial (rule : DigitRule) : Nat → Nat → Nat → Bool → Nat × Bool × Nat
  | 0, _, _, c => (0, c, 0)
  | n + 1, a, b, c =>
    let sum := a % 16 + b % 16 + c.toNat
    let rest := serial rule n (a / 16) (b / 16) (rule sum).2
    ((rule sum).1 % 16 + 16 * rest.1, rest.2.1, if n = 0 then sum else rest.2.2)

theorem decAdd_eq_serial (n a b : Nat) (c : Bool) : decAdd n a b c = serial addRule n a b c := by
  induction n generalizing a b c with
  | zero => rfl
  | succ n ih => simp only [decAdd, serial, addRule, ih]

/-- R164: the difference runs the scheme on the digits of the complement. -/
theorem decSub_eq_serial {n b : Nat} (a : Nat) (c : Bool) (hb : b < 16 ^ n) :
    decSub n a b c = serial subRule n a (16 ^ n - 1 - b) c := by
  induction n generalizing a b c with
  | zero => rfl
  | succ n ih =>
    rw [Nat.pow_succ] at hb ⊢
    have hdigit : (16 ^ n * 16 - 1 - b) % 16 = 15 - b % 16 := by omega
    have hrest : (16 ^ n * 16 - 1 - b) / 16 = 16 ^ n - 1 - b / 16 := by omega
    simp only [decSub, serial, subRule, hdigit, hrest, ih (b := b / 16) _ _ (by omega)]

/-- The digit of `a` at place `k`, in place. -/
theorem and_digit_mask (a k : Nat) : a &&& (0xF <<< (4 * k)) = 2 ^ (4 * k) * (a / 2 ^ (4 * k) % 16) := by
  have hdigit : a / 2 ^ (4 * k) % 16 = (a >>> (4 * k)) &&& 0xF := by
    rw [Nat.shiftRight_eq_div_pow]
    exact (Nat.and_two_pow_sub_one_eq_mod _ 4).symm
  rw [hdigit, Nat.mul_comm (2 ^ _), ← Nat.shiftLeft_eq]
  apply Nat.eq_of_testBit_eq
  intro j
  by_cases hj : 4 * k ≤ j <;> simp [Nat.testBit_shiftLeft, hj]

/-- The sum of the digits of `a` and `b` at place `k` with the carry into it. -/
def placeSum (a b : Nat) (acc : BcdAcc) (k : Nat) : Nat :=
  a / 2 ^ (4 * k) % 16 + b / 2 ^ (4 * k) % 16 + acc.carry.toNat

/-- R162: the running sum is the sum of the place above the digits already done. -/
theorem digitSum_eq (a b : Nat) (acc : BcdAcc) (k : Nat) :
    digitSum a b acc k = 2 ^ (4 * k) * placeSum a b acc k + acc.total % 2 ^ (4 * k) := by
  rw [digitSum, and_digit_mask, and_digit_mask, Nat.shiftLeft_eq, placeSum]
  push_cast
  ring

theorem digitTop_eq (v k : Nat) : digitTop v k = 2 ^ (4 * k) * v + (2 ^ (4 * k) - 1) := by
  have h : 2 ^ (4 * k) - 1 < 2 ^ (4 * k) := Nat.sub_lt (Nat.two_pow_pos _) one_pos
  rw [digitTop, ← Nat.shiftLeft_add_eq_or_of_lt h, Nat.shiftLeft_eq, Nat.mul_comm]
  push_cast [Nat.one_le_two_pow]
  rfl

/-- The digits already done, below place `k`. -/
theorem low_bounds (acc : BcdAcc) (k : Nat) : 0 ≤ acc.total % 2 ^ (4 * k) ∧ acc.total % 2 ^ (4 * k) < 2 ^ (4 * k) :=
  ⟨Int.emod_nonneg _ (by positivity), Int.emod_lt_of_pos _ (by positivity)⟩

/-- R162, R164: the running sum passes the digit `v` exactly when the sum of the place does. -/
theorem digitTop_lt_iff (v sum k : Nat) (acc : BcdAcc) :
    digitTop v k < 2 ^ (4 * k) * sum + acc.total % 2 ^ (4 * k) ↔ v < sum := by
  obtain ⟨h0, h1⟩ := low_bounds acc k
  rw [digitTop_eq]
  constructor
  · intro h
    by_contra hle
    have : (2 : Int) ^ (4 * k) * sum ≤ 2 ^ (4 * k) * v := by gcongr; omega
    omega
  · intro h
    have : (2 : Int) ^ (4 * k) * (v + 1) ≤ 2 ^ (4 * k) * sum := by gcongr; omega
    linarith

/-- What one digit of either algorithm does: it follows the rule at its place, over the digits already done. -/
structure FollowsRule (rule : DigitRule) (w : Width) (a b : Nat) (acc acc' : BcdAcc) (k : Nat) : Prop where
  total : acc'.total % 2 ^ (4 * (k + 1)) =
    2 ^ (4 * k) * ((rule (placeSum a b acc k)).1 % 16 : Nat) + acc.total % 2 ^ (4 * k)
  carry : acc'.carry = (rule (placeSum a b acc k)).2
  overflow : acc'.overflow = digitOverflow w a b acc k

/-- A place holds its digit modulo 16 and leaves the digits below it. -/
theorem place_emod (digit : Int) (acc : BcdAcc) (k : Nat) :
    (2 ^ (4 * k) * digit + acc.total % 2 ^ (4 * k)) % 2 ^ (4 * (k + 1)) =
      2 ^ (4 * k) * (digit % 16) + acc.total % 2 ^ (4 * k) := by
  obtain ⟨h0, h1⟩ := low_bounds acc k
  have hd0 := Int.emod_nonneg digit (b := 16) (by decide)
  have hd1 : digit % 16 ≤ 15 := Int.le_of_lt_add_one (Int.emod_lt_of_pos digit (by decide))
  have hpow : (2 : Int) ^ (4 * (k + 1)) = 2 ^ (4 * k) * 16 := pow_add 2 (4 * k) 4
  have hmul : (2 : Int) ^ (4 * k) * (digit % 16) ≤ 2 ^ (4 * k) * 15 := by gcongr
  rw [hpow]
  refine ((Int.ediv_emod_unique (q := digit / 16) (by positivity)).mpr ⟨?_, by positivity, by linarith⟩).2
  linear_combination 2 ^ (4 * k) * Int.emod_add_mul_ediv digit 16

theorem bcdAddDigit_followsRule (w : Width) (a b : Nat) (acc : BcdAcc) (k : Nat) :
    FollowsRule addRule w a b acc (bcdAddDigit w a b acc k) k := by
  have htotal : (bcdAddDigit w a b acc k).total =
      2 ^ (4 * k) * ((addRule (placeSum a b acc k)).1 : Nat) + acc.total % 2 ^ (4 * k) := by
    simp only [bcdAddDigit, digitSum_eq, gt_iff_lt, digitTop_lt_iff, addRule, Nat.shiftLeft_eq]
    split
    · push_cast; ring
    · rfl
  refine ⟨?_, ?_, rfl⟩
  · rw [htotal, place_emod]; norm_cast
  · show decide ((bcdAddDigit w a b acc k).total > digitTop 0xF k) = _
    rw [htotal]
    exact decide_eq_decide.mpr (digitTop_lt_iff _ _ _ _)

theorem bcdSubDigit_followsRule (w : Width) (a b : Nat) (acc : BcdAcc) (k : Nat) :
    FollowsRule subRule w a b acc (bcdSubDigit w a b acc k) k := by
  have hle : digitSum a b acc k ≤ digitTop 0xF k ↔ placeSum a b acc k ≤ 15 := by
    rw [← not_lt, digitSum_eq, digitTop_lt_iff, not_lt]
  refine ⟨?_, ?_, rfl⟩
  · simp only [bcdSubDigit, hle, subRule]
    split
    next h =>
      rw [digitSum_eq, show ((0x6 <<< (4 * k) : Nat) : Int) = 2 ^ (4 * k) * 6 by simp [Nat.shiftLeft_eq, mul_comm],
        add_sub_right_comm, ← mul_sub, place_emod]
      congr 2
      push_cast
      omega
    next h =>
      rw [digitSum_eq, place_emod]
      norm_cast
  · simp only [bcdSubDigit, hle, subRule, gt_iff_lt, decide_eq_decide]
    split
    next h =>
      have : digitSum a b acc k ≤ digitTop 0xF k := hle.mpr h
      have : (0 : Int) ≤ ((0x6 <<< (4 * k) : Nat) : Int) := Int.natCast_nonneg _
      omega
    next h => rw [digitSum_eq, digitTop_lt_iff]

/-- R162, R164: the sign bit that `vout` takes at the last digit is bit 3 of the place's sum. -/
theorem digitOverflow_top {w : Width} {k : Nat} (hk : 4 * (k + 1) = w.bits) (a b : Nat) (acc : BcdAcc) :
    digitOverflow w a b acc k = (a.testBit (w.bits - 1) == b.testBit (w.bits - 1) &&
      a.testBit (w.bits - 1) != (placeSum a b acc k).testBit 3) := by
  obtain ⟨h0, h1⟩ := low_bounds acc k
  lift acc.total % 2 ^ (4 * k) to Nat using h0 with low hlow
  have hbit : (digitSum a b acc k).toNat.testBit (w.bits - 1) = (placeSum a b acc k).testBit 3 := by
    rw [digitSum_eq, ← hlow, ← hk]
    norm_cast at h1 ⊢
    rw [Nat.testBit_two_pow_mul_add _ h1, if_neg (by omega)]
    congr 1
    omega
  rw [digitOverflow, if_pos hk, overflowBit_eq, hbit]

/-- R162, R164: a fold over `n` digits from place `k` on is the digit-serial scheme on the operands shifted to it. -/
theorem foldl_digits {rule : DigitRule} {w : Width} {a b : Nat} {g : BcdAcc → Nat → BcdAcc}
    (hg : ∀ acc k, FollowsRule rule w a b acc (g acc k) k) (n k : Nat) (acc : BcdAcc) :
    let q := serial rule n (a / 2 ^ (4 * k)) (b / 2 ^ (4 * k)) acc.carry
    let r := (List.range' k n).foldl g acc
    r.total % 2 ^ (4 * (k + n)) = 2 ^ (4 * k) * (q.1 : Nat) + acc.total % 2 ^ (4 * k) ∧ r.carry = q.2.1 ∧
      (n ≠ 0 → 4 * (k + n) = w.bits → r.overflow = (a.testBit (w.bits - 1) == b.testBit (w.bits - 1) &&
        a.testBit (w.bits - 1) != q.2.2.testBit 3)) := by
  induction n generalizing k acc with
  | zero => simp [serial]
  | succ n ih =>
    obtain ⟨htotal, hcarry, hover⟩ := hg acc k
    obtain ⟨itotal, icarry, iover⟩ := ih (k + 1) (g acc k)
    have hplace (v : Nat) : v / 2 ^ (4 * (k + 1)) = v / 2 ^ (4 * k) / 16 := by
      rw [Nat.div_div_eq_div_mul]
      exact congrArg (v / ·) (pow_add 2 (4 * k) 4)
    have hlen : k + 1 + n = k + (n + 1) := by omega
    rw [hplace, hplace, hcarry] at itotal icarry iover
    rw [hlen] at itotal iover
    simp only [List.range'_succ, List.foldl_cons, serial]
    refine ⟨?_, icarry, fun _ hw => ?_⟩
    · rw [itotal, htotal]
      push_cast [placeSum]
      ring
    · cases n with
      | zero => exact hover.trans (digitOverflow_top hw a b acc)
      | succ m => exact iover (by omega) hw

/-! ### The adders' answers in the words of the statements -/

/-- An adder's answer at the width of the flag `f`, part by part; the value fits the width. -/
structure Answers (f : Bool) (r : AluResult) (value : Nat) (carry overflow : Bool) : Prop where
  fits : value < size f
  value : r.value.toNat = value
  carry : r.carry = carry
  overflow : r.overflow = overflow

theorem size_pos (f : Bool) : 0 < size f := by cases f <;> decide

/-- R12, R162: addends of the same sign, and a result of the other sign. -/
def addOverflow (f : Bool) (a b : Nat) (sign : Bool) : Bool :=
  a.testBit (top f) == b.testBit (top f) && a.testBit (top f) != sign

/-- R13, R164: operands of different signs, and a result whose sign left that of the first. -/
def subOverflow (f : Bool) (a b : Nat) (sign : Bool) : Bool :=
  a.testBit (top f) != b.testBit (top f) && a.testBit (top f) != sign

theorem addBin_answers (f : Bool) (a b : Word) (c : Bool) :
    Answers f (addBin (.ofFlag f) a b c) ((a.toNat + b.toNat + c.toNat) % size f)
      (decide (size f ≤ a.toNat + b.toNat + c.toNat))
      (addOverflow f a.toNat b.toNat (((a.toNat + b.toNat + c.toNat) % size f).testBit (top f))) := by
  rw [size_eq, addOverflow, top_eq]
  refine ⟨?_, addBin_value _ a b c, addBin_carry _ a b c, (addBin_overflow _ a b c).trans (overflowBit_eq _ _ _ _)⟩
  rw [size_eq]
  exact Nat.mod_lt _ (Nat.two_pow_pos _)

theorem addOverflow_complement (f : Bool) (a : Nat) {b : Word} (sign : Bool) (hb : b.toNat < size f) :
    addOverflow f a (complement (.ofFlag f) b).toNat sign = subOverflow f a b.toNat sign := by
  rw [size_eq] at hb
  rw [addOverflow, subOverflow, top_eq, complement_testBit_top _ hb]
  cases a.testBit ((Width.ofFlag f).bits - 1) <;> cases b.toNat.testBit ((Width.ofFlag f).bits - 1) <;> rfl

theorem subBin_answers {f : Bool} (a : Word) {b : Word} (c : Bool) (hb : b.toNat < size f) :
    Answers f (subBin (.ofFlag f) a b c) ((a.toNat + size f - b.toNat - (1 - c.toNat)) % size f)
      (decide (b.toNat + (1 - c.toNat) ≤ a.toNat))
      (subOverflow f a.toNat b.toNat
        (((a.toNat + size f - b.toNat - (1 - c.toNat)) % size f).testBit (top f))) := by
  have hvalue : (subBin (.ofFlag f) a b c).value.toNat = (a.toNat + size f - b.toNat - (1 - c.toNat)) % size f := by
    rw [size_eq] at hb ⊢
    exact subBin_value _ c hb
  obtain ⟨-, hsum, -, hover⟩ := addBin_answers f a (complement (.ofFlag f) b) c
  rw [← hsum, addOverflow_complement f _ _ hb] at hover
  refine ⟨Nat.mod_lt _ (size_pos f), hvalue, ?_, ?_⟩
  · rw [size_eq] at hb
    exact subBin_carry _ c hb
  · rw [← hvalue]
    exact hover

theorem digitsOf_eq (f : Bool) : digitsOf (.ofFlag f) = List.range' 0 (digits f) := by cases f <;> rfl

/-- R162, R164: the answer of a fold over all the digits of a width. -/
theorem bcdResult_answers {rule : DigitRule} {f : Bool} {a b : Nat} {g : BcdAcc → Nat → BcdAcc}
    (hg : ∀ acc k, FollowsRule rule (.ofFlag f) a b acc (g acc k) k) (c : Bool) :
    Answers f (bcdResult (.ofFlag f) ((digitsOf (.ofFlag f)).foldl g ⟨0, c, false⟩)) (serial rule (digits f) a b c).1
      (serial rule (digits f) a b c).2.1 (addOverflow f a b ((serial rule (digits f) a b c).2.2.testBit 3)) := by
  have hw : 4 * (0 + digits f) = (Width.ofFlag f).bits := by cases f <;> rfl
  have hn : digits f ≠ 0 := by cases f <;> decide
  have hfold := foldl_digits hg (digits f) 0 ⟨0, c, false⟩
  rw [← digitsOf_eq] at hfold
  simp only [hw, Nat.mul_zero, pow_zero, Nat.div_one, Int.emod_one, one_mul, add_zero] at hfold
  obtain ⟨htotal, hcarry, hover⟩ := hfold
  have hfits : (serial rule (digits f) a b c).1 < size f := by
    have := Int.emod_lt_of_pos ((digitsOf (.ofFlag f)).foldl g ⟨0, c, false⟩).total
      (b := 2 ^ (Width.ofFlag f).bits) (by positivity)
    rw [htotal] at this
    rw [size_eq]
    exact_mod_cast this
  refine ⟨hfits, ?_, hcarry, ?_⟩
  · simp only [bcdResult, htotal, Int.toNat_natCast, BitVec.toNat_ofNat]
    exact Nat.mod_eq_of_lt (hfits.trans_le (by cases f <;> decide))
  · rw [addOverflow, top_eq]
    exact hover hn trivial

theorem bcdAdd_answers (f : Bool) (a b : Word) (c : Bool) :
    Answers f (bcdAdd (.ofFlag f) a b c) (decAdd (digits f) a.toNat b.toNat c).1
      (decAdd (digits f) a.toNat b.toNat c).2.1
      (addOverflow f a.toNat b.toNat ((decAdd (digits f) a.toNat b.toNat c).2.2.testBit 3)) := by
  rw [decAdd_eq_serial]
  exact bcdResult_answers (bcdAddDigit_followsRule _ _ _) c

theorem bcdSub_answers {f : Bool} (a : Word) {b : Word} (c : Bool) (hb : b.toNat < size f) :
    Answers f (bcdSub (.ofFlag f) a b c) (decSub (digits f) a.toNat b.toNat c).1
      (decSub (digits f) a.toNat b.toNat c).2.1
      (subOverflow f a.toNat b.toNat ((decSub (digits f) a.toNat b.toNat c).2.2.testBit 3)) := by
  have hsize : size f = 16 ^ digits f := by cases f <;> rfl
  have hc : (complement (.ofFlag f) b).toNat = 16 ^ digits f - 1 - b.toNat := by
    rw [complement_toNat _ (by rwa [← size_eq]), ← size_eq, hsize]
  rw [decSub_eq_serial _ _ (by rwa [← hsize]), ← hc, ← addOverflow_complement f _ _ hb]
  exact bcdResult_answers (bcdSubDigit_followsRule _ _ _) c

/-! ### What an adder's answer does to the state -/

/-- R161, R163: what executing `i` in `s` leaves when it writes a result with its flags, and nothing else. -/
structure LeavesResult (i : Instr) (s t : State) (r : Nat) (carry overflow : Bool) : Prop where
  frame : t = { passed i s with c := t.c, p := t.p }
  keeps : Keeps 0x3C s t
  acc : t.c.toNat = putAcc s r
  nz : SetsNZ t s.flagM r
  carry : t.flagC = carry
  overflow : t.flagV = overflow

/-- R11, R12: `setNVZC` leaves the flags m, x, d and i. -/
theorem setNVZC_keeps (s : State) (w : Width) (r : AluResult) : Keeps 0x3C s (s.setNVZC w r) := by
  unfold Keeps State.setNVZC
  rw [setNZ_and_of_disjoint _ _ _ _ (by decide) (by decide), State.setFlag_p,
    putFlag_and_of_disjoint _ _ _ _ (by decide), State.setFlag_p, putFlag_and_of_disjoint _ _ _ _ (by decide)]

@[simp] theorem flagC_setNVZC (s : State) (w : Width) (r : AluResult) : (s.setNVZC w r).flagC = r.carry := by
  simp [State.setNVZC]

@[simp] theorem flagV_setNVZC (s : State) (w : Width) (r : AluResult) : (s.setNVZC w r).flagV = r.overflow := by
  simp [State.setNVZC]

/-- The state that an instruction of `len` bytes and `n` cycles leaves when it writes an adder's answer (R161, R163). -/
def State.withAnswer (s : State) (len : Nat) (n : Int) (r : AluResult) : State :=
  (((s.advance len).setA s.wM r.value).setNVZC s.wM r).addCycles n

/-- R161, R163, R364: writing an answer that fits the width leaves its value and flags, past the instruction. -/
theorem withAnswer_leavesResult (i : Instr) (s : State) {r : AluResult} {value : Nat} {carry overflow : Bool}
    (hr : Answers s.flagM r value carry overflow) :
    LeavesResult i s (s.withAnswer i.length (cycles i s) r) value carry overflow := by
  obtain ⟨hfits, hvalue, hcarry, hover⟩ := hr
  have hmod : r.value.toNat % size s.flagM = value := by rw [hvalue, Nat.mod_eq_of_lt hfits]
  let u := (s.advance i.length).setA s.wM r.value
  refine ⟨rfl, setNVZC_keeps u s.wM r, ?_, ?_, ?_, ?_⟩
  · rw [← hmod]
    exact setA_putAcc s r.value
  · rw [← hmod]
    exact setNZ_sets ((u.setFlag maskC r.carry).setFlag maskV r.overflow) s.flagM r.value
  · exact (flagC_setNVZC u s.wM r).trans hcarry
  · exact (flagV_setNVZC u s.wM r).trans hover

/-- R364, R365: the cycles of an operator that reads its operand at the width of `m`. -/
theorem cycles_eq_extraRead {i : Instr} {s : State} {f : Formed Loc} (h : modeLoc i.mnemonic i.operand s = some f)
    (hpei : i.mnemonic ≠ .pei) (hm : operatorPen i.mnemonic = .m1) :
    cycles i s = baseCycles i.opcode + f.adj + extraRead s.flagM f.operand := by
  rw [cycles_eq i s h hpei, hm]
  cases hf : f.operand.isImm <;> simp [extraRead, hf, charge, widthPen]

/-- R161: ADC completes with the answer of its adder. -/
theorem exec_adc_leaves {i : Instr} (h : i.mnemonic = .adc) (s : State) :
    ∃ f t, modeLoc i.mnemonic i.operand s = some f ∧ exec i s = .next t ∧
      ∀ {value : Nat} {carry overflow : Bool},
        Answers s.flagM (adcSum s.wM (s.readA s.wM) (s.locRead f.operand s.wM) s) value carry overflow →
          LeavesResult i s t value carry overflow := by
  obtain ⟨f, hf, hlen, hx⟩ := exec_adc h s
  rw [← h] at hf
  refine ⟨f, _, hf, ?_, fun hr => withAnswer_leavesResult i s hr⟩
  rw [hx, cycles_eq_extraRead hf (by simp [h]) (by rw [h]; rfl), ← hlen, adcWith, opAdc, locRead_advance]
  rfl

/-- R163: SBC completes with the answer of its subtracter. -/
theorem exec_sbc_leaves {i : Instr} (h : i.mnemonic = .sbc) (s : State) :
    ∃ f t, modeLoc i.mnemonic i.operand s = some f ∧ exec i s = .next t ∧
      ∀ {value : Nat} {carry overflow : Bool},
        Answers s.flagM (sbcDiff s.wM (s.readA s.wM) (s.locRead f.operand s.wM) s) value carry overflow →
          LeavesResult i s t value carry overflow := by
  obtain ⟨f, hf, hlen, hx⟩ := exec_sbc h s
  rw [← h] at hf
  refine ⟨f, _, hf, ?_, fun hr => withAnswer_leavesResult i s hr⟩
  rw [hx, cycles_eq_extraRead hf (by simp [h]) (by rw [h]; rfl), ← hlen, sbcWith, opSbc, locRead_advance]
  rfl

/-! ### The answers of ADC and SBC in a state -/

section AnswersInState

variable {s : State} (loc : Loc)

theorem locRead_lt_size : (s.locRead loc s.wM).toNat < size s.flagM := by
  rw [size_eq]
  exact locRead_lt s loc _

theorem adcSum_answers_binary (hd : s.flagD = false) :
    Answers s.flagM (adcSum s.wM (s.readA s.wM) (s.locRead loc s.wM) s)
      ((acc s + value s loc s.flagM + s.flagC.toNat) % size s.flagM)
      (decide (size s.flagM ≤ acc s + value s loc s.flagM + s.flagC.toNat))
      (addOverflow s.flagM (acc s) (value s loc s.flagM)
        (((acc s + value s loc s.flagM + s.flagC.toNat) % size s.flagM).testBit (top s.flagM))) := by
  rw [adcSum, hd, ← acc_eq, ← value_eq]
  exact addBin_answers s.flagM _ _ _

theorem adcSum_answers_decimal (hd : s.flagD = true) :
    Answers s.flagM (adcSum s.wM (s.readA s.wM) (s.locRead loc s.wM) s)
      (decAdd (digits s.flagM) (acc s) (value s loc s.flagM) s.flagC).1
      (decAdd (digits s.flagM) (acc s) (value s loc s.flagM) s.flagC).2.1
      (addOverflow s.flagM (acc s) (value s loc s.flagM)
        ((decAdd (digits s.flagM) (acc s) (value s loc s.flagM) s.flagC).2.2.testBit 3)) := by
  rw [adcSum, hd, ← acc_eq, ← value_eq]
  exact bcdAdd_answers s.flagM _ _ _

theorem sbcDiff_answers_binary (hd : s.flagD = false) :
    Answers s.flagM (sbcDiff s.wM (s.readA s.wM) (s.locRead loc s.wM) s)
      ((acc s + size s.flagM - value s loc s.flagM - (1 - s.flagC.toNat)) % size s.flagM)
      (decide (value s loc s.flagM + (1 - s.flagC.toNat) ≤ acc s))
      (subOverflow s.flagM (acc s) (value s loc s.flagM)
        (((acc s + size s.flagM - value s loc s.flagM - (1 - s.flagC.toNat)) % size s.flagM).testBit
          (top s.flagM))) := by
  rw [sbcDiff, hd, ← acc_eq, ← value_eq]
  exact subBin_answers _ _ (locRead_lt_size loc)

theorem sbcDiff_answers_decimal (hd : s.flagD = true) :
    Answers s.flagM (sbcDiff s.wM (s.readA s.wM) (s.locRead loc s.wM) s)
      (decSub (digits s.flagM) (acc s) (value s loc s.flagM) s.flagC).1
      (decSub (digits s.flagM) (acc s) (value s loc s.flagM) s.flagC).2.1
      (subOverflow s.flagM (acc s) (value s loc s.flagM)
        ((decSub (digits s.flagM) (acc s) (value s loc s.flagM) s.flagC).2.2.testBit 3)) := by
  rw [sbcDiff, hd, ← acc_eq, ← value_eq]
  exact bcdSub_answers _ _ (locRead_lt_size loc)

end AnswersInState

/-! ### Signed overflow -/

theorem testBit_top {f : Bool} {v : Nat} (h : v < size f) : v.testBit (top f) = decide (size f / 2 ≤ v) := by
  rw [Nat.testBit_eq_decide_div_mod_eq, decide_eq_decide]
  cases f <;> simp only [size, top, Bool.false_eq_true, if_false, if_true] at h ⊢ <;> omega

theorem signed_eq {f : Bool} {v : Nat} (h : v < size f) :
    signed f v = if size f / 2 ≤ v then (v : Int) - size f else v := by
  simp only [signed, testBit_top h, decide_eq_true_eq]

theorem addOverflow_eq_signed {f : Bool} {a b : Nat} (c : Bool) (ha : a < size f) (hb : b < size f) :
    addOverflow f a b (((a + b + c.toNat) % size f).testBit (top f)) =
      decide (signed f a + signed f b + c.toNat < -(size f / 2) ∨
        (size f / 2 : Int) ≤ signed f a + signed f b + c.toNat) := by
  have hc := c.toNat_le
  rw [addOverflow, testBit_top ha, testBit_top hb, testBit_top (Nat.mod_lt _ (size_pos f)), signed_eq ha, signed_eq hb,
    Bool.eq_iff_iff]
  simp only [Bool.and_eq_true, beq_iff_eq, bne_iff_ne, ne_eq, decide_eq_decide, decide_eq_true_eq]
  cases f <;> simp only [size, Bool.false_eq_true, if_false, if_true] at ha hb ⊢ <;> omega

theorem subOverflow_eq_signed {f : Bool} {a b : Nat} (c : Bool) (ha : a < size f) (hb : b < size f) :
    subOverflow f a b (((a + size f - b - (1 - c.toNat)) % size f).testBit (top f)) =
      decide (signed f a - signed f b - (1 - c.toNat) < -(size f / 2) ∨
        (size f / 2 : Int) ≤ signed f a - signed f b - (1 - c.toNat)) := by
  have hc := c.toNat_le
  rw [subOverflow, testBit_top ha, testBit_top hb, testBit_top (Nat.mod_lt _ (size_pos f)), signed_eq ha, signed_eq hb,
    Bool.eq_iff_iff]
  simp only [Bool.and_eq_true, bne_iff_ne, ne_eq, decide_eq_decide, decide_eq_true_eq]
  cases f <;> simp only [size, Bool.false_eq_true, if_false, if_true] at ha hb ⊢ <;> omega

/-! ### ADC and SBC -/

theorem mnemonic_eq_adc {i : Instr} (h : i.opcode ∈
    [(0x61 : Byte), 0x63, 0x65, 0x67, 0x69, 0x6D, 0x6F, 0x71, 0x72, 0x73, 0x75, 0x77, 0x79, 0x7D, 0x7F]) :
    i.mnemonic = .adc := by
  replace h := decide_eq_true h
  cases i <;> first
    | rfl
    | cases h

theorem mnemonic_eq_sbc {i : Instr} (h : i.opcode ∈
    [(0xE1 : Byte), 0xE3, 0xE5, 0xE7, 0xE9, 0xED, 0xEF, 0xF1, 0xF2, 0xF3, 0xF5, 0xF7, 0xF9, 0xFD, 0xFF]) :
    i.mnemonic = .sbc := by
  replace h := decide_eq_true h
  cases i <;> first
    | rfl
    | cases h

/-- Settles O21: ADC writes the answer of its adder, binary or decimal by the flag d. -/
theorem adcResult : Obligations.AdcResult := by
  unfold Obligations.AdcResult
  intro i s hop
  obtain ⟨f, t, hf, hx, hleaves⟩ := exec_adc_leaves (mnemonic_eq_adc hop) s
  refine ⟨f, t, hf, hx, ?_⟩
  cases hd : s.flagD with
  | false =>
    obtain ⟨hframe, hkeeps, hacc, hnz, hcarry, hover⟩ := hleaves (adcSum_answers_binary f.operand hd)
    exact ⟨hframe, hkeeps, hacc, hnz, hcarry, hover⟩
  | true =>
    obtain ⟨hframe, hkeeps, hacc, hnz, hcarry, hover⟩ := hleaves (adcSum_answers_decimal f.operand hd)
    exact ⟨hframe, hkeeps, hacc, hnz, hcarry, hover⟩

/-- Settles O22: SBC writes the answer of its subtracter, binary or decimal by the flag d. -/
theorem sbcResult : Obligations.SbcResult := by
  unfold Obligations.SbcResult
  intro i s hop
  obtain ⟨f, t, hf, hx, hleaves⟩ := exec_sbc_leaves (mnemonic_eq_sbc hop) s
  refine ⟨f, t, hf, hx, ?_⟩
  cases hd : s.flagD with
  | false =>
    obtain ⟨hframe, hkeeps, hacc, hnz, hcarry, hover⟩ := hleaves (sbcDiff_answers_binary f.operand hd)
    exact ⟨hframe, hkeeps, hacc, hnz, hcarry, hover⟩
  | true =>
    obtain ⟨hframe, hkeeps, hacc, hnz, hcarry, hover⟩ := hleaves (sbcDiff_answers_decimal f.operand hd)
    exact ⟨hframe, hkeeps, hacc, hnz, hcarry, hover⟩

/-- Settles O23: the overflow of the binary answers is that of the exact signed result. -/
theorem overflowIsSignedOverflow : Obligations.OverflowIsSignedOverflow := by
  unfold Obligations.OverflowIsSignedOverflow
  intro i s hi hd
  have ha := acc_lt s
  rcases List.mem_pair.mp hi with h | h
  · obtain ⟨f, t, hf, hx, hleaves⟩ := exec_adc_leaves h s
    refine ⟨f, t, hf, hx, ?_⟩
    rw [(hleaves (adcSum_answers_binary f.operand hd)).overflow, addOverflow_eq_signed _ ha (value_lt _ _ _)]
    simp only [if_pos h]
  · obtain ⟨f, t, hf, hx, hleaves⟩ := exec_sbc_leaves h s
    have hne : i.mnemonic ≠ .adc := by rw [h]; decide
    refine ⟨f, t, hf, hx, ?_⟩
    rw [(hleaves (sbcDiff_answers_binary f.operand hd)).overflow, subOverflow_eq_signed _ ha (value_lt _ _ _)]
    simp only [if_neg hne]

end Sys2Proof.Machine

/-! PROOFS. What an instruction may do to the state: every instruction that completes is a list of actions on the state, each
of a kind its mnemonic permits, and the list is the same whatever the flag i holds. The whole-machine rules follow action by
action. -/

namespace Sys2Proof.Machine

open Sys2Proof.Claims

/-! ### Actions -/

/-- An update of the state through one of its ports, with the value that is written. -/
inductive Action where
  | setA (w : Width) (v : Word)
  | setX (v : Word)
  | setY (v : Word)
  | setS (v : Word)
  | setD (v : Word)
  | setDbr (v : Byte)
  | setPbr (v : Byte)
  | setPc (v : Word)
  | setFlag (mask : Byte) (b : Bool)
  /-- `SetP` of `P` with the bits outside `keep` dropped and those of `put` set (R301, R320, R321). -/
  | setP (keep put : Byte)
  | setE (b : Bool)
  | store (a : Addr) (v : Byte)
  | push (v : Byte)
  | pull

/-- The state after an action; `X` and `Y` are written at the live index width. -/
def Action.run : Action → State → State
  | .setA w v, s => s.setA w v
  | .setX v, s => s.setX s.wX v
  | .setY v, s => s.setY s.wX v
  | .setS v, s => s.setS v
  | .setD v, s => s.setD v
  | .setDbr v, s => s.setDbr v
  | .setPbr v, s => s.setPbr v
  | .setPc v, s => s.setPc v
  | .setFlag mask b, s => s.setFlag mask b
  | .setP keep put, s => s.setP (s.p &&& keep ||| put)
  | .setE b, s => s.setE b
  | .store a v, s => s.writeMem a v
  | .push v, s => s.push8 v
  | .pull, s => s.pop8

/-- The state after a list of actions, the first one first. -/
def performAll : List Action → State → State
  | [], s => s
  | a :: as, s => performAll as (a.run s)

theorem performAll_append (as bs : List Action) (s : State) :
    performAll (as ++ bs) s = performAll bs (performAll as s) := by
  induction as generalizing s with
  | nil => rfl
  | cons a as ih => exact ih (a.run s)

/-- What every action of a list keeps, the list keeps. -/
theorem performAll_keeps {β : Type} {π : State → β} {as : List Action} (h : ∀ a ∈ as, ∀ u, π (a.run u) = π u)
    (s : State) : π (performAll as s) = π s := by
  induction as generalizing s with
  | nil => rfl
  | cons a as ih =>
    obtain ⟨ha, has⟩ := List.forall_mem_cons.mp h
    exact (ih has (a.run s)).trans (ha s)

/-! ### Which actions a mnemonic permits -/

/-- R76, R78: the operators that store: the stores, the pushes, the block moves, and the read-modify-writes of memory. -/
def WritesMemory (mn : Mnemonic) (o : Operand) : Prop :=
  mn ∈ [.sta, .stx, .sty, .stz, .tsb, .trb, .pha, .phx, .phy, .php, .phb, .phd, .phk, .pea, .pei, .per, .jsr, .jsl, .brk,
      .cop, .mvn, .mvp] ∨
    (mn ∈ [.asl, .lsr, .rol, .ror, .inc, .dec] ∧ o ≠ .acc)

/-- R21 to R31: the actions that an instruction of the mnemonic `mn` with the operand `o` may take from the state `s`. -/
def Permitted (mn : Mnemonic) (o : Operand) (s : State) : Action → Prop
  | .setA w _ => w = s.wM ∨ mn ∈ [.xba, .tdc, .tsc, .mvn, .mvp]
  | .setD _ => mn ∈ [.tcd, .pld]
  | .setDbr _ => mn ∈ [.plb, .mvn, .mvp]
  | .setPbr _ => mn ∈ [.jml, .jsl, .rtl, .rti, .brk, .cop] ∧ (mn = .rti → s.e = false)
  | .setFlag k _ => k ∈ [maskN, maskV, maskZ, maskC] ∨ (k = maskD ∧ mn ∈ [.sed, .cld, .brk, .cop]) ∨
      (k = maskI ∧ mn ∈ [.sei, .cli, .brk, .cop])
  | .setP _ _ => mn ∈ [.plp, .rti, .rep, .sep]
  | .setE _ => mn = .xce
  | .store _ _ | .push _ => WritesMemory mn o
  | .setX _ | .setY _ | .setS _ | .setPc _ | .pull => True

theorem permitted_advance {mn : Mnemonic} {o : Operand} {s : State} {n : Nat} {a : Action} :
    Permitted mn o (s.advance n) a ↔ Permitted mn o s a := by
  cases a <;> exact Iff.rfl

/-! ### What does not depend on the flag i -/

section FlagI

variable (s : State) (b : Bool) (P : Parameters)

@[simp] theorem wM_setI : (s.setFlag maskI b).wM = s.wM := by simp [State.wM]

@[simp] theorem wX_setI : (s.setFlag maskI b).wX = s.wX := by simp [State.wX]

@[simp] theorem readA_setFlag (k : Byte) (w : Width) : (s.setFlag k b).readA w = s.readA w := rfl

@[simp] theorem readX_setFlag (k : Byte) (w : Width) : (s.setFlag k b).readX w = s.readX w := rfl

@[simp] theorem readY_setFlag (k : Byte) (w : Width) : (s.setFlag k b).readY w = s.readY w := rfl

@[simp] theorem locRead_setFlag (k : Byte) (loc : Loc) (w : Width) :
    (s.setFlag k b).locRead loc w = s.locRead loc w := by
  cases loc <;> cases w <;> rfl

@[simp] theorem pullW_fst_setFlag (k : Byte) (w : Width) : ((s.setFlag k b).pullW w).1 = (s.pullW w).1 := by
  cases w <;> rfl

@[simp] theorem adcSum_setI (w : Width) (x y : Word) : adcSum w x y (s.setFlag maskI b) P = adcSum w x y s P := by
  simp [adcSum]

@[simp] theorem sbcDiff_setI (w : Width) (x y : Word) : sbcDiff w x y (s.setFlag maskI b) P = sbcDiff w x y s P := by
  simp [sbcDiff]

@[simp] theorem modeLoc_setI (mn : Mnemonic) (o : Operand) :
    modeLoc mn o (s.setFlag maskI b) P = modeLoc mn o s P := by
  cases o
  case acc => simp [modeLoc, modeAcc]
  case immM8 | immM16 => simp [modeLoc, modeImmM8, modeImmM16]
  case immX8 | immX16 => simp [modeLoc, modeImmX8, modeImmX16]
  case idpy | absx | absy =>
    simp only [modeLoc, modeIdpy, modeAbsx, modeAbsy, pxPen, flagX_setI]
    rfl
  all_goals rfl

@[simp] theorem locOf_setI (mn : Mnemonic) (o : Operand) : locOf mn o (s.setFlag maskI b) P = locOf mn o s P := by
  simp [locOf]

@[simp] theorem lenAdjOf_setI (mn : Mnemonic) (o : Operand) :
    lenAdjOf mn o (s.setFlag maskI b) P = lenAdjOf mn o s P := by
  simp [lenAdjOf]

@[simp] theorem nearTarget_setFlag (k : Byte) (o : Operand) : nearTarget o (s.setFlag k b) = nearTarget o s := by
  cases o <;> rfl

@[simp] theorem farTarget_setFlag (k : Byte) (o : Operand) : farTarget o (s.setFlag k b) = farTarget o s := by
  cases o <;> rfl

@[simp] theorem pointerOf_setFlag (k : Byte) (o : Operand) : pointerOf o (s.setFlag k b) = pointerOf o s := by
  cases o <;> rfl

end FlagI

/-! ### Operators as lists of actions -/

/-- The operator `g` completes from every state by actions that are `ok` there, the same ones whatever the flag i holds. -/
def Performs (ok : State → Action → Prop) (g : State → Except Refusal State) : Prop :=
  ∃ plan : State → List Action, ∀ u, g u = .ok (performAll (plan u) u) ∧ (∀ a ∈ plan u, ok u a) ∧
    ∀ b, plan (u.setFlag maskI b) = plan u

/-- R11: the actions of `SetNZ`. -/
def nz (w : Width) (r : Word) : List Action := [.setFlag maskN (msbOf w r), .setFlag maskZ (decide (truncTo w r = 0))]

/-- R69, R298: the actions of a pull at a width. -/
def pulls : Width → List Action
  | .w8 => [.pull]
  | .w16 => [.pull, .pull]

theorem pullW_snd (s : State) (w : Width) : (s.pullW w).2 = performAll (pulls w) s := by
  cases w <;> rfl

/-- R68, R290: the actions of a push at a width. -/
def pushes (v : Word) : Width → List Action
  | .w8 => [.push (lo v)]
  | .w16 => [.push (hi v), .push (lo v)]

theorem pushW_eq (s : State) (w : Width) (v : Word) : s.pushW w v = performAll (pushes v w) s := by
  cases w <;> rfl

/-- R42: the actions of a write of bytes, low byte first. -/
def stores : List Addr → Nat → List Action
  | [], _ => []
  | a :: as, v => .store a (BitVec.ofNat 8 v) :: stores as (v / 256)

theorem writeBytes_eq_stores (s : State) (as : List Addr) (v : Nat) : s.writeBytes as v = performAll (stores as v) s := by
  induction as generalizing s v with
  | nil => rfl
  | cons a as ih => exact ih _ _

/-- R42: the actions of a write to a location; an immediate has none, and is refused. -/
def writes (w : Width) (v : Word) : Loc → List Action
  | .regA => [.setA w v]
  | loc => stores (loc.addrs w) v.toNat

theorem locWrite_eq_writes (s : State) {loc : Loc} (w : Width) (v : Word) (h : loc.isImm = false) :
    s.locWrite loc w v = .ok (performAll (writes w v loc) s) := by
  cases loc with
  | memBank bank off => exact congrArg Except.ok (writeBytes_eq_stores s _ _)
  | memLong a => exact congrArg Except.ok (writeBytes_eq_stores s _ _)
  | imm _ => cases h
  | regA => rfl

theorem mem_stores {as : List Addr} {v : Nat} {a : Action} (h : a ∈ stores as v) : ∃ b c, a = .store b c := by
  induction as generalizing v with
  | nil => cases h
  | cons b as ih =>
    rcases List.mem_cons.mp h with rfl | h
    · exact ⟨_, _, rfl⟩
    · exact ih h

/-- R36, R42: writing a location needs the memory to be writable, or the accumulator at the width written. -/
theorem permitted_writes {mn : Mnemonic} {o : Operand} {s : State} {loc : Loc} {w : Width} {v : Word} {a : Action}
    (ha : a ∈ writes w v loc) (hmem : loc ≠ .regA → WritesMemory mn o) (hreg : loc = .regA → w = s.wM) :
    Permitted mn o s a := by
  by_cases hloc : loc = .regA
  · subst hloc
    obtain rfl := List.mem_singleton.mp ha
    exact .inl (hreg rfl)
  · have ha : a ∈ stores (loc.addrs w) v.toNat := by
      cases loc
      case regA => exact absurd rfl hloc
      all_goals exact ha
    obtain ⟨b, c, rfl⟩ := mem_stores ha
    exact hmem hloc

/-- A write of the flag i with the value it has changes nothing. -/
theorem setI_flagI (s : State) : s.setFlag maskI s.flagI = s := by
  refine state_eq rfl rfl rfl rfl rfl rfl rfl rfl ?_ rfl rfl rfl
  refine BitVec.eq_of_getLsbD_eq fun j hj => ?_
  rw [State.setFlag_p, putFlag_getLsbD]
  split
  case isTrue h =>
    obtain rfl : j = 2 := by
      revert h
      revert j
      decide
    rfl
  case isFalse => rfl

theorem performs_pure {ok : State → Action → Prop} {g : State → State} (plan : State → List Action)
    (hrun : ∀ u, g u = performAll (plan u) u) (hok : ∀ u, ∀ a ∈ plan u, ok u a)
    (hi : ∀ u b, plan (u.setFlag maskI b) = plan u) : Performs ok fun u => .ok (g u) :=
  ⟨plan, fun u => ⟨congrArg Except.ok (hrun u), hok u, hi u⟩⟩

section Operators

variable {mn : Mnemonic} {o : Operand} {P : Parameters}

theorem Performs.advance {g : State → Except Refusal State} (hg : Performs (Permitted mn o) g) (n : Nat) :
    Performs (Permitted mn o) fun u => g (u.advance n) := by
  obtain ⟨plan, hplan⟩ := hg
  refine ⟨fun u => .setPc (u.pc + BitVec.ofNat 16 n) :: plan (u.advance n), fun u => ?_⟩
  obtain ⟨hrun, hok, hi⟩ := hplan (u.advance n)
  refine ⟨hrun, List.forall_mem_cons.mpr ⟨trivial, fun a ha => permitted_advance.mp (hok a ha)⟩, fun b => ?_⟩
  exact congrArg (Action.setPc (u.pc + BitVec.ofNat 16 n) :: ·) (hi b)

/-! #### Results in a register -/

/-- R11, R36: a result in the accumulator, with n and z. -/
theorem performs_setA {v : State → Word} (hv : ∀ u b, v (u.setFlag maskI b) = v u) :
    Performs (Permitted mn o) fun u => .ok ((u.setA u.wM (v u)).setNZ u.wM (v u)) :=
  performs_pure (fun u => .setA u.wM (v u) :: nz u.wM (v u)) (fun _ => rfl) (fun _ => by simp [nz, Permitted])
    (fun _ _ => by simp [hv])

/-- R11, R35: a result in `X`, with n and z. -/
theorem performs_setX {v : State → Word} (hv : ∀ u b, v (u.setFlag maskI b) = v u) :
    Performs (Permitted mn o) fun u => .ok ((u.setX u.wX (v u)).setNZ u.wX (v u)) :=
  performs_pure (fun u => .setX (v u) :: nz u.wX (v u)) (fun _ => rfl) (fun _ => by simp [nz, Permitted])
    (fun _ _ => by simp [hv])

/-- R11, R35: a result in `Y`, with n and z. -/
theorem performs_setY {v : State → Word} (hv : ∀ u b, v (u.setFlag maskI b) = v u) :
    Performs (Permitted mn o) fun u => .ok ((u.setY u.wX (v u)).setNZ u.wX (v u)) :=
  performs_pure (fun u => .setY (v u) :: nz u.wX (v u)) (fun _ => rfl) (fun _ => by simp [nz, Permitted])
    (fun _ _ => by simp [hv])

/-- R12: an adder's answer in the accumulator, with n, v, z and c. -/
theorem performs_answer {r : State → AluResult} (hr : ∀ u b, r (u.setFlag maskI b) = r u) :
    Performs (Permitted mn o) fun u => .ok ((u.setA u.wM (r u).value).setNVZC u.wM (r u)) :=
  performs_pure
    (fun u => .setA u.wM (r u).value :: .setFlag maskC (r u).carry :: .setFlag maskV (r u).overflow :: nz u.wM (r u).value)
    (fun _ => rfl) (fun _ => by simp [nz, Permitted]) (fun _ _ => by simp [hr])

/-- R200: the flags of a comparison. -/
theorem performs_compare {w : State → Width} {reg : State → Word} (hw : ∀ u b, w (u.setFlag maskI b) = w u)
    (hreg : ∀ u b, reg (u.setFlag maskI b) = reg u) (loc : Loc) :
    Performs (Permitted mn o) fun u => .ok (compare (w u) (reg u) loc u) :=
  performs_pure
    (fun u => .setFlag maskC (subBin (w u) (reg u) (u.locRead loc (w u)) true).carry ::
      nz (w u) (subBin (w u) (reg u) (u.locRead loc (w u)) true).value)
    (fun _ => rfl) (fun _ => by simp [nz, Permitted]) (fun _ _ => by simp [hw, hreg])

theorem performs_opBit (loc : Loc) : Performs (Permitted mn o) fun u => .ok (opBit loc u) :=
  performs_pure
    (fun u => .setFlag maskZ (decide (u.readA u.wM &&& u.locRead loc u.wM = 0)) :: if loc.isImm then [] else
      [.setFlag maskN (msbOf u.wM (u.locRead loc u.wM)), .setFlag maskV ((u.locRead loc u.wM).getLsbD (u.wM.bits - 2))])
    (fun _ => by cases loc <;> rfl) (fun _ => by cases loc <;> simp [Loc.isImm, Permitted]) (fun _ _ => by simp)

/-! #### The operators -/

section Results

variable (loc : Loc) (dir : Word)

theorem performs_opOra : Performs (Permitted mn o) fun u => .ok (opOra loc u) :=
  performs_setA (v := fun u => u.readA u.wM ||| u.locRead loc u.wM) fun _ _ => by simp

theorem performs_opAnd : Performs (Permitted mn o) fun u => .ok (opAnd loc u) :=
  performs_setA (v := fun u => u.readA u.wM &&& u.locRead loc u.wM) fun _ _ => by simp

theorem performs_opEor : Performs (Permitted mn o) fun u => .ok (opEor loc u) :=
  performs_setA (v := fun u => u.readA u.wM ^^^ u.locRead loc u.wM) fun _ _ => by simp

theorem performs_opLda : Performs (Permitted mn o) fun u => .ok (opLda loc u) :=
  performs_setA (v := fun u => u.locRead loc u.wM) fun _ _ => by simp

theorem performs_opLdx : Performs (Permitted mn o) fun u => .ok (opLdx loc u) :=
  performs_setX (v := fun u => u.locRead loc u.wX) fun _ _ => by simp

theorem performs_opLdy : Performs (Permitted mn o) fun u => .ok (opLdy loc u) :=
  performs_setY (v := fun u => u.locRead loc u.wX) fun _ _ => by simp

theorem performs_opAdc : Performs (Permitted mn o) fun u => .ok (opAdc loc u P) :=
  performs_answer (r := fun u => adcSum u.wM (u.readA u.wM) (u.locRead loc u.wM) u P) fun _ _ => by simp

theorem performs_opSbc : Performs (Permitted mn o) fun u => .ok (opSbc loc u P) :=
  performs_answer (r := fun u => sbcDiff u.wM (u.readA u.wM) (u.locRead loc u.wM) u P) fun _ _ => by simp

theorem performs_opCmp : Performs (Permitted mn o) fun u => .ok (opCmp loc u) :=
  performs_compare (w := State.wM) (reg := fun u => u.readA u.wM) wM_setI (fun _ _ => by simp) loc

theorem performs_opCpx : Performs (Permitted mn o) fun u => .ok (opCpx loc u) :=
  performs_compare (w := State.wX) (reg := fun u => u.readX u.wX) wX_setI (fun _ _ => by simp) loc

theorem performs_opCpy : Performs (Permitted mn o) fun u => .ok (opCpy loc u) :=
  performs_compare (w := State.wX) (reg := fun u => u.readY u.wX) wX_setI (fun _ _ => by simp) loc

theorem performs_stepX : Performs (Permitted mn o) fun u => .ok (stepX dir u) :=
  performs_setX (v := fun u => truncTo u.wX (u.readX u.wX + dir)) fun _ _ => by simp

theorem performs_stepY : Performs (Permitted mn o) fun u => .ok (stepY dir u) :=
  performs_setY (v := fun u => truncTo u.wX (u.readY u.wX + dir)) fun _ _ => by simp

end Results

theorem performs_setFlag (k : Byte) (b : Bool) (hk : ∀ u, Permitted mn o u (.setFlag k b)) :
    Performs (Permitted mn o) fun u => .ok (u.setFlag k b) :=
  performs_pure (fun _ => [.setFlag k b]) (fun _ => rfl) (fun u => List.forall_mem_singleton.mpr (hk u)) fun _ _ => rfl

section Transfers

variable {v : State → Word} (hv : ∀ u b, v (u.setFlag maskI b) = v u)

include hv

theorem performs_moveToA : Performs (Permitted mn o) fun u => .ok (moveToA (v u) u) :=
  performs_setA (v := fun u => truncTo u.wM (v u)) fun _ _ => by simp [hv]

theorem performs_moveToX : Performs (Permitted mn o) fun u => .ok (moveToX (v u) u) :=
  performs_setX (v := fun u => truncTo u.wX (v u)) fun _ _ => by simp [hv]

theorem performs_moveToY : Performs (Permitted mn o) fun u => .ok (moveToY (v u) u) :=
  performs_setY (v := fun u => truncTo u.wX (v u)) fun _ _ => by simp [hv]

end Transfers

/-! #### Writes of a location -/

/-- R42: an operator that writes its location and then takes the actions `tail`. -/
theorem performs_locWrite {loc : Loc} {w : State → Width} {v : State → Word} {post : State → State → State}
    (tail : State → List Action) (hloc : loc.isImm = false) (hmem : loc ≠ .regA → WritesMemory mn o)
    (hreg : loc = .regA → ∀ u, w u = u.wM) (hpost : ∀ u t, post u t = performAll (tail u) t)
    (htail : ∀ u, ∀ a ∈ tail u, Permitted mn o u a) (hw : ∀ u b, w (u.setFlag maskI b) = w u)
    (hv : ∀ u b, v (u.setFlag maskI b) = v u) (hi : ∀ u b, tail (u.setFlag maskI b) = tail u) :
    Performs (Permitted mn o) fun u => (u.locWrite loc (w u) (v u)).map (post u) := by
  refine ⟨fun u => writes (w u) (v u) loc ++ tail u, fun u => ⟨?_, fun a ha => ?_, fun b => ?_⟩⟩
  · simp only [locWrite_eq_writes u _ _ hloc, performAll_append]
    exact congrArg Except.ok (hpost u _)
  · rcases List.mem_append.mp ha with ha | ha
    · exact permitted_writes ha hmem fun h => hreg h u
    · exact htail u a ha
  · simp only [hw, hv, hi]

/-- R42: a write that is not refused is not one to an immediate. -/
theorem isImm_of_locWrite {s t : State} {loc : Loc} {w : Width} {v : Word} (h : s.locWrite loc w v = .ok t) :
    loc.isImm = false := by
  cases loc
  case imm => cases h
  all_goals rfl

theorem isImm_of_locWrite_map {s t : State} {loc : Loc} {w : Width} {v : Word} {post : State → State}
    (h : (s.locWrite loc w v).map post = .ok t) : loc.isImm = false := by
  cases loc
  case imm => cases h
  all_goals rfl


/-- R165, R166, R185 to R190: a read-modify-write: the result to the location, then flags of the result. -/
theorem performs_rmw {loc : Loc} {v : State → Word} {post : State → State → State}
    (tail : State → List Action) (hloc : loc.isImm = false) (hmem : loc ≠ .regA → WritesMemory mn o)
    (hpost : ∀ u t, post u t = performAll (tail u) t) (htail : ∀ u, ∀ a ∈ tail u, Permitted mn o u a)
    (hv : ∀ u b, v (u.setFlag maskI b) = v u) (hi : ∀ u b, tail (u.setFlag maskI b) = tail u) :
    Performs (Permitted mn o) fun u => (u.locWrite loc u.wM (v u)).map (post u) :=
  performs_locWrite tail hloc hmem (fun _ _ => rfl) hpost htail (fun _ _ => by simp) hv hi

/-- R214 to R217: a store: nothing but the write. -/
theorem performs_store {loc : Loc} {w : State → Width} {v : State → Word} (hloc : loc.isImm = false)
    (hmem : loc ≠ .regA → WritesMemory mn o) (hreg : loc = .regA → ∀ u, w u = u.wM)
    (hw : ∀ u b, w (u.setFlag maskI b) = w u) (hv : ∀ u b, v (u.setFlag maskI b) = v u) :
    Performs (Permitted mn o) fun u => u.locWrite loc (w u) (v u) := by
  have h := performs_locWrite (post := fun _ t => t) (fun _ => []) hloc hmem hreg (fun _ _ => rfl)
    (fun _ _ ha => nomatch ha) hw hv fun _ _ => rfl
  have hid (r : Except Refusal State) : r.map (fun t => t) = r := by cases r <;> rfl
  simpa only [hid] using h

/-- R185 to R188: a shift or rotate: the bit shifted out goes to c. -/
theorem performs_shift {loc : Loc} {r : State → Word} {c : State → Bool} (hloc : loc.isImm = false)
    (hmem : loc ≠ .regA → WritesMemory mn o) (hr : ∀ u b, r (u.setFlag maskI b) = r u)
    (hc : ∀ u b, c (u.setFlag maskI b) = c u) :
    Performs (Permitted mn o) fun u =>
      (u.locWrite loc u.wM (r u)).map fun t => (t.setFlag maskC (c u)).setNZ u.wM (r u) :=
  performs_rmw (fun u => .setFlag maskC (c u) :: nz u.wM (r u)) hloc hmem (fun _ _ => rfl)
    (fun _ => by simp [nz, Permitted]) hr (fun _ _ => by simp [hr, hc])

/-- R165, R166: INC or DEC of a location. -/
theorem performs_incDec {loc : Loc} {r : State → Word} (hloc : loc.isImm = false)
    (hmem : loc ≠ .regA → WritesMemory mn o) (hr : ∀ u b, r (u.setFlag maskI b) = r u) :
    Performs (Permitted mn o) fun u => (u.locWrite loc u.wM (r u)).map fun t => t.setNZ u.wM (r u) :=
  performs_rmw (fun u => nz u.wM (r u)) hloc hmem (fun _ _ => rfl) (fun _ => by simp [nz, Permitted]) hr
    (fun _ _ => by simp [hr])

/-- R189, R190: TSB or TRB: only z follows the write. -/
theorem performs_testBits {loc : Loc} {v : State → Word} {z : State → Bool} (hloc : loc.isImm = false)
    (hmem : loc ≠ .regA → WritesMemory mn o) (hv : ∀ u b, v (u.setFlag maskI b) = v u)
    (hz : ∀ u b, z (u.setFlag maskI b) = z u) :
    Performs (Permitted mn o) fun u => (u.locWrite loc u.wM (v u)).map fun t => t.setFlag maskZ (z u) :=
  performs_rmw (fun u => [.setFlag maskZ (z u)]) hloc hmem (fun _ _ => rfl) (fun _ => by simp [Permitted]) hv
    (fun _ _ => by simp [hz])

section ReadModifyWrite

variable {loc : Loc} (hloc : loc.isImm = false) (hmem : loc ≠ .regA → WritesMemory mn o)

include hloc hmem

theorem performs_opAsl : Performs (Permitted mn o) (opAsl loc) :=
  performs_shift (r := fun u => truncTo u.wM (u.locRead loc u.wM <<< 1))
    (c := fun u => msbOf u.wM (u.locRead loc u.wM)) hloc hmem (fun _ _ => by simp) fun _ _ => by simp

theorem performs_opLsr : Performs (Permitted mn o) (opLsr loc) :=
  performs_shift (r := fun u => u.locRead loc u.wM >>> 1)
    (c := fun u => (u.locRead loc u.wM).getLsbD 0) hloc hmem (fun _ _ => by simp) fun _ _ => by simp

theorem performs_opRol : Performs (Permitted mn o) (opRol loc) :=
  performs_shift (r := fun u => truncTo u.wM (u.locRead loc u.wM <<< 1 ||| BitVec.ofNat 16 u.flagC.toNat))
    (c := fun u => msbOf u.wM (u.locRead loc u.wM)) hloc hmem (fun _ _ => by simp) fun _ _ => by simp

theorem performs_opRor : Performs (Permitted mn o) (opRor loc) :=
  performs_shift 
    (r := fun u => u.locRead loc u.wM >>> 1 ||| BitVec.ofNat 16 u.flagC.toNat <<< (u.wM.bits - 1))
    (c := fun u => (u.locRead loc u.wM).getLsbD 0) hloc hmem (fun _ _ => by simp) fun _ _ => by simp

theorem performs_opInc : Performs (Permitted mn o) (opInc loc) :=
  performs_incDec (r := fun u => truncTo u.wM (u.locRead loc u.wM + 1)) hloc hmem fun _ _ => by simp

theorem performs_opDec : Performs (Permitted mn o) (opDec loc) :=
  performs_incDec (r := fun u => truncTo u.wM (u.locRead loc u.wM - 1)) hloc hmem fun _ _ => by simp

theorem performs_opTsb : Performs (Permitted mn o) (opTsb loc) :=
  performs_testBits (v := fun u => u.locRead loc u.wM ||| u.readA u.wM)
    (z := fun u => decide (u.readA u.wM &&& u.locRead loc u.wM = 0)) hloc hmem (fun _ _ => by simp) fun _ _ => by simp

theorem performs_opTrb : Performs (Permitted mn o) (opTrb loc) :=
  performs_testBits (v := fun u => u.locRead loc u.wM &&& complement u.wM (u.readA u.wM))
    (z := fun u => decide (u.readA u.wM &&& u.locRead loc u.wM = 0)) hloc hmem (fun _ _ => by simp) fun _ _ => by simp

end ReadModifyWrite

/-! #### The stack -/

theorem performs_pushW {w : State → Width} {v : State → Word} (hmem : WritesMemory mn o)
    (hw : ∀ u b, w (u.setFlag maskI b) = w u) (hv : ∀ u b, v (u.setFlag maskI b) = v u) :
    Performs (Permitted mn o) fun u => .ok (u.pushW (w u) (v u)) :=
  performs_pure (fun u => pushes (v u) (w u)) (fun u => pushW_eq u _ _)
    (fun u => by cases w u <;> simpa [pushes, Permitted] using hmem) (fun _ _ => by simp [hw, hv])

/-- Pulling at a width, and then the actions `tail` on the value pulled. -/
theorem performs_pullW {w : State → Width} {post : State → State → State} (tail : State → List Action)
    (hpost : ∀ u, post u (u.pullW (w u)).2 = performAll (tail u) (u.pullW (w u)).2)
    (htail : ∀ u, ∀ a ∈ tail u, Permitted mn o u a) (hw : ∀ u b, w (u.setFlag maskI b) = w u)
    (hi : ∀ u b, tail (u.setFlag maskI b) = tail u) :
    Performs (Permitted mn o) fun u => .ok (post u (u.pullW (w u)).2) :=
  performs_pure (fun u => pulls (w u) ++ tail u)
    (fun u => by rw [performAll_append, ← pullW_snd, hpost])
    (fun u => List.forall_mem_append.mpr ⟨by cases w u <;> simp [pulls, Permitted], htail u⟩)
    (fun _ _ => by simp [hw, hi])

theorem pullW_wX (s : State) (w : Width) : (s.pullW w).2.wX = s.wX := by
  cases w <;> rfl

theorem performs_opPla : Performs (Permitted mn o) fun u => .ok (opPla u) :=
  performs_pullW (w := State.wM) (post := fun u t => (t.setA u.wM (u.pullW u.wM).1).setNZ u.wM (u.pullW u.wM).1)
    (fun u => .setA u.wM (u.pullW u.wM).1 :: nz u.wM (u.pullW u.wM).1) (fun _ => rfl)
    (fun _ => by simp [nz, Permitted]) (fun _ _ => by simp) (fun _ _ => by simp)

theorem performs_opPlx : Performs (Permitted mn o) fun u => .ok (opPlx u) :=
  performs_pullW (w := State.wX) (post := fun u t => (t.setX u.wX (u.pullW u.wX).1).setNZ u.wX (u.pullW u.wX).1)
    (fun u => .setX (u.pullW u.wX).1 :: nz u.wX (u.pullW u.wX).1)
    (fun u => by simp only [performAll, Action.run, pullW_wX]; rfl)
    (fun _ => by simp [nz, Permitted]) (fun _ _ => by simp) (fun _ _ => by simp)

theorem performs_opPly : Performs (Permitted mn o) fun u => .ok (opPly u) :=
  performs_pullW (w := State.wX) (post := fun u t => (t.setY u.wX (u.pullW u.wX).1).setNZ u.wX (u.pullW u.wX).1)
    (fun u => .setY (u.pullW u.wX).1 :: nz u.wX (u.pullW u.wX).1)
    (fun u => by simp only [performAll, Action.run, pullW_wX]; rfl)
    (fun _ => by simp [nz, Permitted]) (fun _ _ => by simp) (fun _ _ => by simp)

/-- R33: a status byte written whole. -/
theorem run_setP_whole (s : State) (v : Byte) : (Action.setP 0 v).run s = s.setP v := by
  simp [Action.run]

theorem performs_opPlp : Performs (Permitted .plp o) fun u => .ok (opPlp u) :=
  performs_pure (fun u => [.pull, .setP 0 u.pull8.1]) (fun _ => by simp only [performAll, run_setP_whole]; rfl)
    (fun _ => by simp [Permitted]) (fun _ _ => rfl)

/-- R257: the actions of RTI. -/
def rtiActions (s : State) : List Action :=
  [.pull, .setP 0 s.pull8.1, .pull, .pull, .setPc (s.pull8.2.setP s.pull8.1).pull16.1] ++
    if s.e then [] else [.pull, .setPbr (s.pull8.2.setP s.pull8.1).pull16.2.pull8.1]

theorem performs_returnFromTrap : Performs (Permitted .rti o) fun u => .ok u.returnFromTrap := by
  refine performs_pure rtiActions (fun u => ?_) (fun u => ?_) fun _ _ => rfl
  · unfold rtiActions State.returnFromTrap
    cases u.e <;> simp only [List.cons_append, List.nil_append, performAll, run_setP_whole] <;> rfl
  · unfold rtiActions
    cases h : u.e <;> simp [Permitted, h]

/-! #### Traps -/

/-- R387: the actions of a software interrupt. -/
def trapActions (vecN vecE : Addr) (ret : Word) (s : State) : List Action :=
  (if s.e then [] else [.push s.pbr]) ++
    [.push (hi ret), .push (lo ret), .push s.p, .setFlag maskI true, .setFlag maskD false, .setPbr 0x00,
      .setPc (s.takeTrap vecN vecE ret).pc]

theorem takeTrap_eq_actions (s : State) (vecN vecE : Addr) (ret : Word) :
    s.takeTrap vecN vecE ret = performAll (trapActions vecN vecE ret s) s := by
  unfold trapActions State.takeTrap
  cases s.e <;> rfl

theorem permitted_trapActions {mn : Mnemonic} (h : mn = .brk ∨ mn = .cop) (s : State) (vecN vecE : Addr) (ret : Word) :
    ∀ a ∈ trapActions vecN vecE ret s, Permitted mn o s a := by
  unfold trapActions
  rcases h with rfl | rfl <;> cases s.e <;> simp [Permitted, WritesMemory]

end Operators

/-! ### Every entry as a list of actions -/

/-- The entry completes from `s` by permitted actions; the instructions that push `P` apart, the same ones complete it
whatever the flag i holds. -/
def Runs (P : Parameters) (op : Byte) (mn : Mnemonic) (o : Operand) (s : State) : Prop :=
  ∃ as n, (∀ a ∈ as, Permitted mn o s a) ∧ execEntry P op mn o s = .next (performAll as s, n) ∧
    (mn ∉ [.php, .brk, .cop] → ∀ b, execEntry P op mn o (s.setFlag maskI b) = .next (performAll as (s.setFlag maskI b), n))

section Entries

variable {P : Parameters} {op : Byte} {mn : Mnemonic} {o : Operand} {s : State}

theorem runs_of_performs {g : State → Except Refusal State} {adj : Int} {extra : State → Int}
    (hg : Performs (Permitted mn o) g) (hextra : ∀ u b, extra (u.setFlag maskI b) = extra u)
    (hc : ∀ b, execEntry P op mn o (s.setFlag maskI b) =
      completeWrite op adj (extra (s.setFlag maskI b)) (g (s.setFlag maskI b)) P) : Runs P op mn o s := by
  obtain ⟨plan, hplan⟩ := hg
  obtain ⟨-, hok, hi⟩ := hplan s
  have hrun (b : Bool) : execEntry P op mn o (s.setFlag maskI b) =
      .next (performAll (plan s) (s.setFlag maskI b), P.baseCycles op + adj + extra s) := by
    obtain ⟨hgb, -, -⟩ := hplan (s.setFlag maskI b)
    rw [hc, hgb, hi, hextra]
    rfl
  refine ⟨plan s, _, hok, ?_, fun _ => hrun⟩
  simpa only [setI_flagI] using hrun s.flagI

/-- An entry whose mode forms an operand without reading the flag i. -/
theorem runs_of_applied {α : Type} {form : State → Option (Formed α)} {g : Formed α → State → Except Refusal State}
    {extra : Formed α → State → Int} {r : State × Int} (h : execEntry P op mn o s = .next r)
    (hform : ∀ b, form (s.setFlag maskI b) = form s) (hextra : ∀ f u b, extra f (u.setFlag maskI b) = extra f u)
    (hc : ∀ u, execEntry P op mn o u = applied mn o (form u) fun f => completeWrite op f.adj (extra f u) (g f u) P)
    (hg : ∀ f, form s = some f → (∃ t, g f s = .ok t) → Performs (Permitted mn o) (g f)) : Runs P op mn o s := by
  rw [hc] at h
  obtain ⟨f, hf, h⟩ := applied_next h
  obtain ⟨t, ht, -⟩ := completeWrite_next.mp h
  refine runs_of_performs (hg f hf ⟨t, ht⟩) (hextra f) (adj := f.adj) fun b => ?_
  rw [hc, hform, hf]
  rfl

/-- An entry of an operator that takes no operand. -/
theorem runs_of_stacked {g : State → State} {extra : State → Int}
    (hg : Performs (Permitted mn o) fun u => .ok (g u)) (hextra : ∀ u b, extra (u.setFlag maskI b) = extra u)
    (hc : ∀ u, execEntry P op mn o u = stacked op (lenAdjOf mn o u P) (extra u) g u P) : Runs P op mn o s := by
  refine runs_of_performs (hg.advance (lenAdjOf mn o s P).len) hextra (adj := (lenAdjOf mn o s P).adj) fun b => ?_
  rw [hc, lenAdjOf_setI]
  rfl

/-- An entry of an operator that takes no operand and adds no cycle. -/
theorem runs_of_implied {g : State → State} (hg : Performs (Permitted mn o) fun u => .ok (g u))
    (hc : ∀ u, execEntry P op mn o u = stacked op (lenAdjOf mn o u P) 0 g u P) : Runs P op mn o s :=
  runs_of_stacked (extra := fun _ => 0) hg (fun _ _ => rfl) hc

/-- As `runs_of_implied`, the actions given. -/
theorem runs_of_plan {g : State → State} (plan : State → List Action) (hrun : ∀ u, g u = performAll (plan u) u)
    (hok : ∀ u, ∀ a ∈ plan u, Permitted mn o u a) (hi : ∀ u b, plan (u.setFlag maskI b) = plan u)
    (hc : ∀ u, execEntry P op mn o u = stacked op (lenAdjOf mn o u P) 0 g u P) : Runs P op mn o s :=
  runs_of_implied (performs_pure plan hrun hok hi) hc

/-- R364, R365: an entry of an operator that reads its location. -/
theorem runs_of_read {g : Loc → State → State} {flag : State → Bool} {r : State × Int}
    (h : execEntry P op mn o s = .next r) (hflag : ∀ u b, flag (u.setFlag maskI b) = flag u)
    (hc : ∀ u, execEntry P op mn o u = applied mn o (locOf mn o u P) fun f =>
      complete op f.adj (extraRead (flag u) f.operand) (g f.operand (u.advance f.len)) P)
    (hg : ∀ loc, Performs (Permitted mn o) fun u => .ok (g loc u)) : Runs P op mn o s :=
  runs_of_applied (extra := fun f u => extraRead (flag u) f.operand) (g := fun f u => .ok (g f.operand (u.advance f.len)))
    h (fun _ => locOf_setI s _ P mn o) (fun _ _ _ => by simp only [hflag]) hc fun f _ _ => (hg f.operand).advance f.len

/-- R42: an entry of an operator that writes its location. -/
theorem runs_of_write {g : Loc → State → Except Refusal State} {extra : Formed Loc → State → Int} {r : State × Int}
    (h : execEntry P op mn o s = .next r) (hextra : ∀ f u b, extra f (u.setFlag maskI b) = extra f u)
    (hc : ∀ u, execEntry P op mn o u = applied mn o (locOf mn o u P) fun f =>
      completeWrite op f.adj (extra f u) (g f.operand (u.advance f.len)) P)
    (hloc : ∀ {loc u t}, g loc u = .ok t → loc.isImm = false)
    (hg : ∀ f, locOf mn o s P = some f → f.operand.isImm = false → Performs (Permitted mn o) (g f.operand)) :
    Runs P op mn o s :=
  runs_of_applied (g := fun f u => g f.operand (u.advance f.len)) h (fun _ => locOf_setI s _ P mn o) hextra hc
    fun f hf ht => by
      obtain ⟨t, ht⟩ := ht
      exact (hg f hf (hloc ht)).advance f.len

theorem dataLoc_ne_regA (bank : Byte) (base idx : Word) : dataLoc bank base idx P ≠ .regA := by
  unfold dataLoc dataLocWith
  split <;> exact Loc.noConfusion

/-- R125: the accumulator is the location of the mode `acc` alone. -/
theorem operand_regA_iff {f : Formed Loc} (h : locOf mn o s P = some f) : f.operand = .regA ↔ o = .acc := by
  cases o <;> cases h <;> simp [modeAcc, modeImmM8, modeImmM16, modeImmX8, modeImmX16, modeDp, modeDpx, modeDpy, modeIdp,
    modeIdpx, modeIdpy, modeIldp, modeIldpy, modeSr, modeIsry, modeAbs, modeAbsx, modeAbsy, modeLong, modeLongx,
    dataLoc_ne_regA]

/-- R78: an operator that writes a location other than the accumulator writes memory. -/
theorem writesMemory_of_ne_regA {f : Formed Loc} (h : locOf mn o s P = some f)
    (hmn : mn ∈ [.asl, .lsr, .rol, .ror, .inc, .dec, .tsb, .trb, .sta, .stx, .sty, .stz]) (hf : f.operand ≠ .regA) :
    WritesMemory mn o := by
  have ho : o ≠ .acc := fun ho => hf ((operand_regA_iff h).mpr ho)
  unfold WritesMemory
  revert hmn
  cases mn <;> simp [ho]

/-- R191: the read-modify-writes. -/
theorem runs_of_rmw {g : Loc → State → Except Refusal State} {r : State × Int} (h : execEntry P op mn o s = .next r)
    (hmn : mn ∈ [.asl, .lsr, .rol, .ror, .inc, .dec, .tsb, .trb, .sta, .stx, .sty, .stz])
    (hc : ∀ u, execEntry P op mn o u = applied mn o (locOf mn o u P) fun f =>
      completeWrite op f.adj (extraRmw u) (g f.operand (u.advance f.len)) P)
    (hloc : ∀ {loc u t}, g loc u = .ok t → loc.isImm = false)
    (hg : ∀ {loc}, loc.isImm = false → (loc ≠ .regA → WritesMemory mn o) → Performs (Permitted mn o) (g loc)) :
    Runs P op mn o s :=
  runs_of_write (extra := fun _ u => extraRmw u) h (fun _ _ _ => by simp [extraRmw]) hc hloc
    fun _ hf hl => hg hl (writesMemory_of_ne_regA hf hmn)

/-- R214 to R217: the stores. -/
theorem runs_of_store {w : State → Width} {v : State → Word} {flag : State → Bool} {r : State × Int}
    (h : execEntry P op mn o s = .next r) (hmn : mn ∈ [.sta, .stx, .sty, .stz])
    (hc : ∀ u, execEntry P op mn o u = applied mn o (locOf mn o u P) fun f =>
      completeWrite op f.adj (extraRead (flag u) f.operand)
        ((u.advance f.len).locWrite f.operand (w (u.advance f.len)) (v (u.advance f.len))) P)
    (hflag : ∀ u b, flag (u.setFlag maskI b) = flag u) (hw : ∀ u b, w (u.setFlag maskI b) = w u)
    (hv : ∀ u b, v (u.setFlag maskI b) = v u) (hacc : o = .acc → ∀ u, w u = u.wM) : Runs P op mn o s :=
  runs_of_write (g := fun loc u => u.locWrite loc (w u) (v u)) (extra := fun f u => extraRead (flag u) f.operand) h
    (fun _ _ _ => by simp only [hflag]) hc isImm_of_locWrite fun f hf hl =>
      performs_store hl (writesMemory_of_ne_regA hf (by revert hmn; cases mn <;> decide))
        (fun hr => hacc ((operand_regA_iff hf).mp hr)) hw hv

/-- R258: the branches. -/
theorem runs_of_branch {taken : State → Bool} {r : State × Int} (h : execEntry P op mn o s = .next r)
    (htaken : ∀ u b, taken (u.setFlag maskI b) = taken u)
    (hc : ∀ u, execEntry P op mn o u = applied mn o (nearTarget o u) fun f => branchWith op (taken u) f u P) :
    Runs P op mn o s := by
  refine runs_of_applied (form := nearTarget o) (extra := fun f u => if taken u then takenPen u f else 0)
    (g := fun f u => .ok ((u.advance f.len).setPc (if taken u then f.operand else (u.advance f.len).pc))) h
    (fun _ => nearTarget_setFlag s _ _ o) (fun f u b => ?_) (fun u => ?_) fun f _ _ => ?_
  · simp only [htaken]
    rfl
  · rw [hc]
    congr
    funext f
    cases ht : taken u <;> simp only [branchWith] <;> rfl
  · exact performs_pure (fun u => [.setPc (if taken u then f.operand else (u.advance f.len).pc)])
      (fun _ => rfl) (fun _ => by simp [Permitted]) (fun _ _ => by simp [htaken])


/-- A location that an operator reads through is applied as what it reads. -/
theorem applied_map {α β : Type} (f : Option (Formed α)) (k : Formed α → Formed β) (g : Formed β → Counted) :
    applied mn o (f.map k) g = applied mn o f fun a => g (k a) := by
  cases f <;> rfl

theorem valueOfLoc_setFlag (k : Byte) (b : Bool) : valueOfLoc (s.setFlag k b) = valueOfLoc s := by
  funext f
  simp [valueOfLoc]

/-- An operator that pushes one 16-bit value that its mode formed. -/
theorem runs_of_pushEffective {form : State → Option (Formed Word)} {r : State × Int}
    (h : execEntry P op mn o s = .next r) (hform : ∀ b, form (s.setFlag maskI b) = form s)
    (hmem : WritesMemory mn o)
    (hc : ∀ u, execEntry P op mn o u = applied mn o (form u) fun f => pushEffective op f u P) : Runs P op mn o s :=
  runs_of_applied (extra := fun _ _ => 0) (g := fun f u => .ok ((u.advance f.len).push16 f.operand)) h hform
    (fun _ _ _ => rfl) hc fun f _ _ => (performs_pure (fun _ => [.push (hi f.operand), .push (lo f.operand)])
      (fun _ => rfl) (fun _ => by simpa [Permitted] using hmem) fun _ _ => rfl).advance f.len

/-- R320, R321: an operator that writes `P` through the mask that its mode formed. -/
theorem runs_of_status {combine : Byte → Byte → Byte} {keep put : Byte → Byte} {r : State × Int}
    (h : execEntry P op mn o s = .next r) (hmn : mn ∈ [.plp, .rti, .rep, .sep])
    (hcombine : ∀ p k, combine p k = p &&& keep k ||| put k)
    (hc : ∀ u, execEntry P op mn o u = applied mn o (locOf mn o u P) fun f =>
      statusWith op (maskOfLoc u f) combine u P) : Runs P op mn o s :=
  runs_of_applied (form := fun u => (locOf mn o u P).map (maskOfLoc u)) (extra := fun _ _ => 0)
    (g := fun f u => .ok ((u.advance f.len).setP (combine u.p f.operand))) h
    (fun b => by
      have : maskOfLoc (s.setFlag maskI b) = maskOfLoc s := funext fun f => by simp [maskOfLoc]
      rw [locOf_setI, this])
    (fun _ _ _ => rfl) (fun u => by rw [hc, applied_map]; rfl) fun f _ _ =>
      (performs_pure (g := fun u => u.setP (combine u.p f.operand)) (fun _ => [.setP (keep f.operand) (put f.operand)])
      (fun _ => by simp only [hcombine]; rfl) (fun _ => by simpa [Permitted] using hmn) fun _ _ => rfl).advance f.len

/-- R340: the actions of one step of a block move, over the state past the instruction. -/
def moveActions (dir : Word) (dst src : Byte) (s : State) : List Action :=
  [.setPc (s.pc + 3), .store (addr dst s.y) (BitVec.ofNat 8 (s.locRead (.memBank src s.x) .w8).toNat), .setX (s.x + dir),
    .setY (s.y + dir), .setDbr dst, .setA .w16 (s.c - 1), .setPc (if s.c = 0 then s.pc + 3 else s.pc)]

theorem runs_of_blockMove {dir : Word} {r : State × Int} (h : execEntry P op mn o s = .next r)
    (hmn : mn = .mvn ∨ mn = .mvp) (hc : ∀ u, execEntry P op mn o u = blockMove op dir mn o u P) : Runs P op mn o s := by
  rw [hc] at h
  cases o <;> simp only [blockMove, moveOf, reduceCtorEq] at h
  case move dst src =>
  refine runs_of_performs (adj := 0) (extra := fun _ => 0)
    (performs_pure (g := fun u => performAll (moveActions dir dst src u) u) (moveActions dir dst src) (fun _ => rfl)
      (fun u => ?_) fun u b => by rw [moveActions, locRead_setFlag]; rfl) (fun _ _ => rfl) fun b => hc _
  rcases hmn with rfl | rfl <;> simp [moveActions, Permitted, WritesMemory]

/-- R251 to R254, R268: an operator that goes to a target its mode formed, by the actions of `plan`. -/
theorem runs_of_jump {α : Type} {form : State → Option (Formed α)} {g : Formed α → State → State} {r : State × Int}
    (h : execEntry P op mn o s = .next r) (hform : ∀ b, form (s.setFlag maskI b) = form s)
    (plan : Formed α → State → List Action) (hrun : ∀ f u, g f u = performAll (plan f u) u)
    (hok : ∀ f u, ∀ a ∈ plan f u, Permitted mn o u a) (hi : ∀ f u b, plan f (u.setFlag maskI b) = plan f u)
    (hc : ∀ u, execEntry P op mn o u = applied mn o (form u) fun f => complete op f.adj 0 (g f u) P) : Runs P op mn o s :=
  runs_of_applied (extra := fun _ _ => 0) (g := fun f u => .ok (g f u)) h hform (fun _ _ _ => rfl) hc
    fun f _ _ => performs_pure (plan f) (hrun f) (hok f) (hi f)

/-- R269, R294: an instruction that pushes `P`, of which one run says all. -/
theorem runs_of_pushP {as : List Action} {n : Int} (hmn : mn ∈ [.php, .brk, .cop])
    (hok : ∀ a ∈ as, Permitted mn o s a) (hc : execEntry P op mn o s = .next (performAll as s, n)) : Runs P op mn o s :=
  ⟨as, n, hok, hc, fun h => absurd hmn h⟩

theorem runs_of_trap {vecN vecE : Addr} (hmn : mn = .brk ∨ mn = .cop)
    (hc : execEntry P op mn o s = trapWith op vecN vecE (lenAdjOf mn o s P) s P) : Runs P op mn o s := by
  refine runs_of_pushP (n := P.baseCycles op + (lenAdjOf mn o s P).adj + nativePen s)
    (as := .setPc (s.pc + BitVec.ofNat 16 (lenAdjOf mn o s P).len) ::
      trapActions vecN vecE (s.pc + 2) (s.advance (lenAdjOf mn o s P).len)) ?_ ?_ ?_
  · rcases hmn with rfl | rfl <;> decide
  · exact List.forall_mem_cons.mpr
      ⟨trivial, fun a ha => permitted_advance.mp (permitted_trapActions hmn _ _ _ _ a ha)⟩
  · rw [hc, trapWith, takeTrap_eq_actions]
    rfl

/-- R21 to R31: every entry that completes does so by permitted actions. -/
theorem execEntry_runs {r : State × Int} (ho : o = .acc → mn ∉ [.stx, .sty]) (h : execEntry P op mn o s = .next r) :
    Runs P op mn o s := by
  cases mn
  case brk => exact runs_of_trap (.inl rfl) rfl
  case ora => exact runs_of_read (flag := State.flagM) h flagM_setI (fun _ => rfl) performs_opOra
  case cop => exact runs_of_trap (.inr rfl) rfl
  case tsb => exact runs_of_rmw h (by decide) (fun _ => rfl) isImm_of_locWrite_map performs_opTsb
  case asl => exact runs_of_rmw h (by decide) (fun _ => rfl) isImm_of_locWrite_map performs_opAsl
  case php =>
    exact runs_of_pushP (mn := .php) (as := [.setPc (s.advance (lenAdjOf .php o s P).len).pc, .push s.p]) (by decide)
      (by simp [Permitted, WritesMemory]) rfl
  case phd =>
    exact runs_of_plan (fun u => [.push (hi u.d), .push (lo u.d)]) (fun _ => rfl) (fun _ => by simp [Permitted, WritesMemory])
      (fun _ _ => rfl) fun _ => rfl
  case bpl => exact runs_of_branch (taken := fun u => !u.flagN) h (fun _ _ => by simp) fun _ => rfl
  case trb => exact runs_of_rmw h (by decide) (fun _ => rfl) isImm_of_locWrite_map performs_opTrb
  case clc => exact runs_of_implied (performs_setFlag maskC false fun _ => by simp [Permitted]) fun _ => rfl
  case inc => exact runs_of_rmw h (by decide) (fun _ => rfl) isImm_of_locWrite_map performs_opInc
  case tcs =>
    exact runs_of_plan (fun u => [.setS u.c]) (fun _ => rfl) (fun _ => by simp [Permitted])
      (fun _ _ => rfl) fun _ => rfl
  case jsr =>
    exact runs_of_jump (form := nearTarget o)
      (g := fun f u => ((u.advance f.len).push16 (u.pc + 2)).setPc f.operand)
      h (fun b => nearTarget_setFlag s b maskI o)
      (fun f u => [.setPc (u.advance f.len).pc, .push (hi (u.pc + 2)), .push (lo (u.pc + 2)), .setPc f.operand])
      (fun _ _ => rfl) (fun _ _ => by simp [Permitted, WritesMemory]) (fun _ _ _ => rfl) fun _ => rfl
  case and => exact runs_of_read (flag := State.flagM) h flagM_setI (fun _ => rfl) performs_opAnd
  case jsl =>
    exact runs_of_jump (form := farTarget o)
      (g := fun f u => ((((u.advance f.len).push8 u.pbr).push16 (u.pc + 3)).setPbr (bankOf f.operand)).setPc
        (offOf f.operand))
      h (fun b => farTarget_setFlag s b maskI o)
      (fun f u => [.setPc (u.advance f.len).pc, .push u.pbr, .push (hi (u.pc + 3)), .push (lo (u.pc + 3)),
        .setPbr (bankOf f.operand), .setPc (offOf f.operand)])
      (fun _ _ => rfl) (fun _ _ => by simp [Permitted, WritesMemory]) (fun _ _ _ => rfl) fun _ => rfl
  case bit => exact runs_of_read (flag := State.flagM) h flagM_setI (fun _ => rfl) performs_opBit
  case rol => exact runs_of_rmw h (by decide) (fun _ => rfl) isImm_of_locWrite_map performs_opRol
  case plp => exact runs_of_implied performs_opPlp fun _ => rfl
  case pld =>
    exact runs_of_plan (fun u => .pull :: .pull :: .setD u.pull16.1 :: nz .w16 u.pull16.1) (fun _ => rfl)
      (fun _ => by simp [nz, Permitted]) (fun _ _ => rfl) fun _ => rfl
  case bmi => exact runs_of_branch (taken := State.flagN) h flagN_setI fun _ => rfl
  case sec => exact runs_of_implied (performs_setFlag maskC true fun _ => by simp [Permitted]) fun _ => rfl
  case dec => exact runs_of_rmw h (by decide) (fun _ => rfl) isImm_of_locWrite_map performs_opDec
  case tsc =>
    exact runs_of_plan (fun u => .setA .w16 u.sp :: nz .w16 u.sp) (fun _ => rfl) (fun _ => by simp [nz, Permitted])
      (fun _ _ => rfl) fun _ => rfl
  case rti => exact runs_of_stacked (extra := nativePen) performs_returnFromTrap (fun _ _ => rfl) fun _ => rfl
  case eor => exact runs_of_read (flag := State.flagM) h flagM_setI (fun _ => rfl) performs_opEor
  case wdm | nop =>
    exact runs_of_plan (fun _ => []) (fun _ => rfl) (fun _ => by simp [Permitted]) (fun _ _ => rfl) fun _ => rfl
  case mvp => exact runs_of_blockMove h (.inr rfl) fun _ => rfl
  case lsr => exact runs_of_rmw h (by decide) (fun _ => rfl) isImm_of_locWrite_map performs_opLsr
  case pha =>
    exact runs_of_stacked (extra := fun u => widthPen u.flagM) (performs_pushW (w := State.wM) (v := State.c)
      (.inl (by decide)) wM_setI fun _ _ => rfl) (fun _ _ => by simp) fun _ => rfl
  case phk =>
    exact runs_of_plan (fun u => [.push u.pbr]) (fun _ => rfl) (fun _ => by simp [Permitted, WritesMemory])
      (fun _ _ => rfl) fun _ => rfl
  case jmp | brl =>
    exact runs_of_jump (form := nearTarget o)
      (g := fun f u => (u.advance f.len).setPc f.operand)
      h (fun b => nearTarget_setFlag s b maskI o)
      (fun f u => [.setPc (u.advance f.len).pc, .setPc f.operand])
      (fun _ _ => rfl) (fun _ _ => by simp [Permitted, WritesMemory]) (fun _ _ _ => rfl) fun _ => rfl
  case bvc => exact runs_of_branch (taken := fun u => !u.flagV) h (fun _ _ => by simp) fun _ => rfl
  case mvn => exact runs_of_blockMove h (.inl rfl) fun _ => rfl
  case cli => exact runs_of_implied (performs_setFlag maskI false fun _ => by simp [Permitted]) fun _ => rfl
  case phy =>
    exact runs_of_stacked (extra := fun u => widthPen u.flagX) (performs_pushW (w := State.wX) (v := State.y)
      (.inl (by decide)) wX_setI fun _ _ => rfl) (fun _ _ => by simp) fun _ => rfl
  case tcd =>
    exact runs_of_plan (fun u => .setD u.c :: nz .w16 u.c) (fun _ => rfl) (fun _ => by simp [nz, Permitted])
      (fun _ _ => rfl) fun _ => rfl
  case jml =>
    exact runs_of_jump (form := farTarget o)
      (g := fun f u => ((u.advance f.len).setPbr (bankOf f.operand)).setPc (offOf f.operand))
      h (fun b => farTarget_setFlag s b maskI o)
      (fun f u => [.setPc (u.advance f.len).pc, .setPbr (bankOf f.operand), .setPc (offOf f.operand)])
      (fun _ _ => rfl) (fun _ _ => by simp [Permitted, WritesMemory]) (fun _ _ _ => rfl) fun _ => rfl
  case rts =>
    exact runs_of_plan (fun u => [.pull, .pull, .setPc (u.pull16.1 + 1)]) (fun _ => rfl) (fun _ => by simp [Permitted])
      (fun _ _ => rfl) fun _ => rfl
  case adc => exact runs_of_read (flag := State.flagM) h flagM_setI (fun _ => rfl) performs_opAdc
  case per =>
    exact runs_of_pushEffective (form := nearTarget o) h (fun b => nearTarget_setFlag s b maskI o) (.inl (by decide))
      fun _ => rfl
  case stz =>
    exact runs_of_store (w := State.wM) (v := fun _ => 0) (flag := State.flagM) h (by decide) (fun _ => rfl)
      flagM_setI wM_setI (fun _ _ => rfl) fun _ _ => rfl
  case ror => exact runs_of_rmw h (by decide) (fun _ => rfl) isImm_of_locWrite_map performs_opRor
  case pla => exact runs_of_stacked (extra := fun u => widthPen u.flagM) performs_opPla (fun _ _ => by simp) fun _ => rfl
  case rtl =>
    exact runs_of_plan (fun u => [.pull, .pull, .pull, .setPbr (bankOf u.pull24.1), .setPc (offOf u.pull24.1 + 1)])
      (fun _ => rfl) (fun _ => by simp [Permitted]) (fun _ _ => rfl) fun _ => rfl
  case bvs => exact runs_of_branch (taken := State.flagV) h flagV_setI fun _ => rfl
  case sei => exact runs_of_implied (performs_setFlag maskI true fun _ => by simp [Permitted]) fun _ => rfl
  case ply => exact runs_of_stacked (extra := fun u => widthPen u.flagX) performs_opPly (fun _ _ => by simp) fun _ => rfl
  case tdc =>
    exact runs_of_plan (fun u => .setA .w16 u.d :: nz .w16 u.d) (fun _ => rfl) (fun _ => by simp [nz, Permitted])
      (fun _ _ => rfl) fun _ => rfl
  case bra => exact runs_of_branch (taken := fun _ => true) h (fun _ _ => rfl) fun _ => rfl
  case sta =>
    exact runs_of_store (w := State.wM) (v := fun u => u.readA u.wM) (flag := State.flagM) h (by decide) (fun _ => rfl)
      flagM_setI wM_setI (fun _ _ => by simp) fun _ _ => rfl
  case sty =>
    exact runs_of_store (w := State.wX) (v := fun u => u.readY u.wX) (flag := State.flagX) h (by decide) (fun _ => rfl)
      flagX_setI wX_setI (fun _ _ => by simp) fun hacc => absurd (by decide) (ho hacc)
  case stx =>
    exact runs_of_store (w := State.wX) (v := fun u => u.readX u.wX) (flag := State.flagX) h (by decide) (fun _ => rfl)
      flagX_setI wX_setI (fun _ _ => by simp) fun hacc => absurd (by decide) (ho hacc)
  case dey => exact runs_of_implied (performs_stepY (-1)) fun _ => rfl
  case txa => exact runs_of_implied (performs_moveToA (v := State.x) fun _ _ => rfl) fun _ => rfl
  case phb =>
    exact runs_of_plan (fun u => [.push u.dbr]) (fun _ => rfl) (fun _ => by simp [Permitted, WritesMemory])
      (fun _ _ => rfl) fun _ => rfl
  case bcc => exact runs_of_branch (taken := fun u => !u.flagC) h (fun _ _ => by simp) fun _ => rfl
  case tya => exact runs_of_implied (performs_moveToA (v := State.y) fun _ _ => rfl) fun _ => rfl
  case txs =>
    exact runs_of_plan (fun u => [.setS u.x]) (fun _ => rfl) (fun _ => by simp [Permitted])
      (fun _ _ => rfl) fun _ => rfl
  case txy => exact runs_of_implied (performs_moveToY (v := State.x) fun _ _ => rfl) fun _ => rfl
  case ldy => exact runs_of_read (flag := State.flagX) h flagX_setI (fun _ => rfl) performs_opLdy
  case lda => exact runs_of_read (flag := State.flagM) h flagM_setI (fun _ => rfl) performs_opLda
  case ldx => exact runs_of_read (flag := State.flagX) h flagX_setI (fun _ => rfl) performs_opLdx
  case tay => exact runs_of_implied (performs_moveToY (v := State.c) fun _ _ => rfl) fun _ => rfl
  case tax => exact runs_of_implied (performs_moveToX (v := State.c) fun _ _ => rfl) fun _ => rfl
  case plb =>
    exact runs_of_plan (fun u => .pull :: .setDbr u.pull8.1 :: nz .w8 (word u.pull8.1 0x00))
      (fun _ => rfl) (fun _ => by simp [nz, Permitted]) (fun _ _ => rfl) fun _ => rfl
  case bcs => exact runs_of_branch (taken := State.flagC) h flagC_setI fun _ => rfl
  case clv => exact runs_of_implied (performs_setFlag maskV false fun _ => by simp [Permitted]) fun _ => rfl
  case tsx => exact runs_of_implied (performs_moveToX (v := State.sp) fun _ _ => rfl) fun _ => rfl
  case tyx => exact runs_of_implied (performs_moveToX (v := State.y) fun _ _ => rfl) fun _ => rfl
  case cpy => exact runs_of_read (flag := State.flagX) h flagX_setI (fun _ => rfl) performs_opCpy
  case cmp => exact runs_of_read (flag := State.flagM) h flagM_setI (fun _ => rfl) performs_opCmp
  case rep =>
    exact runs_of_status (combine := fun p k => p &&& (k ^^^ 0xFF)) (keep := fun k => k ^^^ 0xFF) (put := fun _ => 0) h
      (by decide) (fun _ _ => BitVec.or_zero.symm) fun _ => rfl
  case iny => exact runs_of_implied (performs_stepY 1) fun _ => rfl
  case dex => exact runs_of_implied (performs_stepX (-1)) fun _ => rfl
  case wai | stp => cases h
  case bne => exact runs_of_branch (taken := fun u => !u.flagZ) h (fun _ _ => by simp) fun _ => rfl
  case pei =>
    exact runs_of_pushEffective (form := pointerOf o) h (fun b => pointerOf_setFlag s b maskI o) (.inl (by decide))
      fun _ => rfl
  case cld => exact runs_of_implied (performs_setFlag maskD false fun _ => by simp [Permitted]) fun _ => rfl
  case phx =>
    exact runs_of_stacked (extra := fun u => widthPen u.flagX) (performs_pushW (w := State.wX) (v := State.x)
      (.inl (by decide)) wX_setI fun _ _ => rfl) (fun _ _ => by simp) fun _ => rfl
  case cpx => exact runs_of_read (flag := State.flagX) h flagX_setI (fun _ => rfl) performs_opCpx
  case sbc => exact runs_of_read (flag := State.flagM) h flagM_setI (fun _ => rfl) performs_opSbc
  case sep =>
    exact runs_of_status (combine := fun p k => p ||| k) (keep := fun _ => 0xFF) (put := id) h
      (by decide) (fun p k => congrArg (· ||| k) (BitVec.and_allOnes (x := p)).symm) fun _ => rfl
  case inx => exact runs_of_implied (performs_stepX 1) fun _ => rfl
  case xba =>
    exact runs_of_plan (fun u => .setA .w16 (word (hi u.c) (lo u.c)) :: nz .w8 (word (hi u.c) (lo u.c)))
      (fun _ => rfl) (fun _ => by simp [nz, Permitted]) (fun _ _ => rfl) fun _ => rfl
  case beq => exact runs_of_branch (taken := State.flagZ) h flagZ_setI fun _ => rfl
  case pea =>
    exact runs_of_pushEffective (form := fun u => (locOf .pea o u P).map (valueOfLoc u)) h
      (fun _ => by rw [valueOfLoc_setFlag, locOf_setI]) (.inl (by decide)) fun _ => by rw [applied_map]; rfl
  case sed => exact runs_of_implied (performs_setFlag maskD true fun _ => by simp [Permitted]) fun _ => rfl
  case plx => exact runs_of_stacked (extra := fun u => widthPen u.flagX) performs_opPlx (fun _ _ => by simp) fun _ => rfl
  case xce =>
    exact runs_of_plan (fun u => [.setFlag maskC u.e, .setE u.flagC]) (fun _ => rfl) (fun _ => by simp [Permitted])
      (fun _ _ => by simp) fun _ => rfl

end Entries

/-! ### Every instruction as a list of actions -/

/-- R100: STX and STY have no accumulator form. -/
theorem mnemonic_of_operand_acc {i : Instr} (h : i.operand = .acc) : i.mnemonic ∉ [.stx, .sty] := by
  cases i
  case aslAcc | lsrAcc | rolAcc | rorAcc | incAcc | decAcc => decide
  all_goals cases h

/-- R21 to R31: what an instruction that completes does: permitted actions and its cycles; the instructions that push `P`
apart, it does the same whatever the flag i holds. -/
theorem exec_actions {i : Instr} {s t : State} (h : exec i s = .next t) :
    ∃ as n, (∀ a ∈ as, Permitted i.mnemonic i.operand s a) ∧ t = (performAll as s).addCycles n ∧
      (i.mnemonic ∉ [.php, .brk, .cop] →
        ∀ b, exec i (s.setFlag maskI b) = .next ((performAll as (s.setFlag maskI b)).addCycles n)) := by
  rw [← chargeCycles_execEntry_std] at h
  obtain ⟨u, n, hu, rfl⟩ := chargeCycles_next.mp h
  obtain ⟨as, n, hok, hrun, hi⟩ := execEntry_runs mnemonic_of_operand_acc hu
  obtain ⟨rfl, rfl⟩ := Prod.mk.inj (Host.Outcome.next.inj (hu.symm.trans hrun))
  refine ⟨as, n, hok, rfl, fun hmn b => ?_⟩
  rw [← chargeCycles_execEntry_std, hi hmn b]
  rfl

/-! ### Invariants -/

/-- The flags that a permitted single-flag write can name; m and x are not among them (R33). -/
theorem mask_of_permitted {mn : Mnemonic} {o : Operand} {s : State} {k : Byte} {b : Bool}
    (h : Permitted mn o s (.setFlag k b)) : k ∈ [maskN, maskV, maskZ, maskC, maskD, maskI] := by
  rcases h with h | ⟨rfl, -⟩ | ⟨rfl, -⟩
  · exact List.mem_append_left [maskD, maskI] h
  · decide
  · decide

/-- R24, R25, R32: each permitted action keeps the invariants. -/
theorem Inv.action {mn : Mnemonic} {o : Operand} {s u : State} {a : Action} (h : Inv u) (ha : Permitted mn o s a) :
    Inv (a.run u) := by
  cases a with
  | setA w v => exact h.setA w v
  | setX v => exact h.setX v
  | setY v => exact h.setY v
  | setS v => exact h.setS v
  | setD v => exact h.setD v
  | setDbr v => exact h.setDbr v
  | setPbr v => exact h.setPbr v
  | setPc v => exact h.setPc v
  | setFlag k b =>
    have hk : ∀ k ∈ [maskN, maskV, maskZ, maskC, maskD, maskI], k &&& 0x30 = 0 := by decide
    exact h.setFlag b (hk k (mask_of_permitted ha))
  | setP keep put => exact h.setP _
  | setE b => exact h.setE b
  | store a v => exact h.writeMem a v
  | push v => exact h.push8 v
  | pull => exact h.pull8

theorem Inv.performAll {mn : Mnemonic} {o : Operand} {s : State} {as : List Action}
    (has : ∀ a ∈ as, Permitted mn o s a) {u : State} (h : Inv u) : Inv (performAll as u) := by
  induction as generalizing u with
  | nil => exact h
  | cons a as ih =>
    obtain ⟨ha, has⟩ := List.forall_mem_cons.mp has
    exact ih has (h.action ha)

theorem Inv.exec {i : Instr} {s t : State} (h : Inv s) (ht : exec i s = .next t) : Inv t := by
  obtain ⟨as, n, hok, rfl, -⟩ := exec_actions ht
  exact (h.performAll hok).addCycles n

/-- Settles O12: a step that completes executes an instruction, whose every action keeps the invariants. -/
theorem stepKeepsInvariants : Obligations.StepKeepsInvariants := by
  unfold Obligations.StepKeepsInvariants
  intro s t h ht
  rcases step_eq s with ⟨-, hf⟩ | ⟨-, i, -, hs⟩
  · rw [hf] at ht
    cases ht
  · exact h.exec (hs ▸ ht)

/-- Settles O11: each stated value is that of the reset state. -/
theorem resetStateHasTheStatedValues : Obligations.ResetStateHasTheStatedValues := by
  unfold Obligations.ResetStateHasTheStatedValues
  exact ⟨rfl, by decide, by decide, by decide, by decide, by decide, by decide, by decide, rfl, rfl, rfl, rfl, by decide,
    reset_inv⟩

/-- Settles O16: the laws of one cell of memory. -/
theorem memoryReturnsTheLastWrite : Obligations.MemoryReturnsTheLastWrite := by
  unfold Obligations.MemoryReturnsTheLastWrite
  refine fun s a b v => ⟨?_, rfl, wf_writeMem a v⟩
  split
  case isTrue h => exact h ▸ readMem_writeMem_same s a v
  case isFalse h => exact readMem_writeMem_other s v h

/-! ### Which instructions write what -/

section Writers

variable {i : Instr} {s t : State}

/-- What each permitted action keeps, an instruction keeps. -/
theorem exec_keeps {β : Type} {π : State → β} (h : exec i s = .next t) (hπ : ∀ u n, π (u.addCycles n) = π u)
    (ha : ∀ a u, Permitted i.mnemonic i.operand s a → π (a.run u) = π u) : π t = π s := by
  obtain ⟨as, n, hok, rfl, -⟩ := exec_actions h
  exact (hπ _ n).trans (performAll_keeps (fun a hm u => ha a u (hok a hm)) s)

/-- R26: `D` is written by TCD and PLD alone. -/
theorem exec_keeps_d (h : exec i s = .next t) (hmn : i.mnemonic ∉ [.tcd, .pld]) : t.d = s.d := by
  refine exec_keeps h (fun _ _ => rfl) fun a u ha => ?_
  cases a
  case setD => exact absurd ha hmn
  all_goals rfl

/-- R27: `DBR` is written by PLB and the block moves alone. -/
theorem exec_keeps_dbr (h : exec i s = .next t) (hmn : i.mnemonic ∉ [.plb, .mvn, .mvp]) : t.dbr = s.dbr := by
  refine exec_keeps h (fun _ _ => rfl) fun a u ha => ?_
  cases a
  case setDbr => exact absurd ha hmn
  all_goals rfl

/-- R28: `PBR` is written by the far jumps, calls and returns and the software interrupts alone, by RTI in native mode. -/
theorem exec_keeps_pbr (h : exec i s = .next t)
    (hmn : ¬ (i.mnemonic ∈ [.jml, .jsl, .rtl, .rti, .brk, .cop] ∧ (i.mnemonic = .rti → s.e = false))) :
    t.pbr = s.pbr := by
  refine exec_keeps h (fun _ _ => rfl) fun a u ha => ?_
  cases a
  case setPbr => exact absurd ha hmn
  all_goals rfl

/-- R31: `E` is written by XCE alone. -/
theorem exec_keeps_e (h : exec i s = .next t) (hmn : i.mnemonic ≠ .xce) : t.e = s.e := by
  refine exec_keeps h (fun _ _ => rfl) fun a u ha => ?_
  cases a
  case setE => exact absurd ha hmn
  all_goals rfl

/-- R32: each bit of the status byte with m and x forced. -/
theorem forceWidths_getLsbD (e : Bool) (p : Byte) (j : Nat) :
    (forceWidths e p).getLsbD j = (p.getLsbD j || (e && (0x30 : Byte).getLsbD j)) := by
  cases e with
  | false => simp [forceWidths]
  | true => rw [forceWidths, if_pos rfl, BitVec.or_assoc, BitVec.getLsbD_or]; rfl

/-- R30: the status bits that an instruction can write: n, v, z and c; m and x by the writers of the whole byte and XCE. -/
theorem exec_keeps_flag {j : Nat} (h : exec i s = .next t)
    (hflag : ∀ k b, Permitted i.mnemonic i.operand s (.setFlag k b) → k.getLsbD j = false)
    (hp : i.mnemonic ∉ [.plp, .rti, .rep, .sep]) (he : (0x30 : Byte).getLsbD j = false ∨ i.mnemonic ≠ .xce) :
    t.p.getLsbD j = s.p.getLsbD j := by
  refine exec_keeps (π := fun u => u.p.getLsbD j) h (fun _ _ => rfl) fun a u ha => ?_
  cases a
  case setFlag k b =>
    show (putFlag u.p k b).getLsbD j = u.p.getLsbD j
    rw [putFlag_getLsbD, hflag k b ha]
    rfl
  case setP => exact absurd ha hp
  case setE b =>
    rcases he with he | he
    · show (forceWidths b u.p).getLsbD j = u.p.getLsbD j
      rw [forceWidths_getLsbD, he, Bool.and_false, Bool.or_false]
    · exact absurd ha he
  all_goals rfl

/-- R30, R32: the width flags m and x are written by the writers of the whole status byte and XCE alone. -/
theorem exec_keeps_widths (h : exec i s = .next t) (hmn : i.mnemonic ∉ [.plp, .rti, .rep, .sep, .xce]) :
    t.flagM = s.flagM ∧ t.flagX = s.flagX := by
  have hbits : ∀ k ∈ [maskN, maskV, maskZ, maskC, maskD, maskI], k.getLsbD 5 = false ∧ k.getLsbD 4 = false := by decide
  have hp : i.mnemonic ∉ [.plp, .rti, .rep, .sep] := fun hp => hmn (List.mem_append_left [Mnemonic.xce] hp)
  have he : i.mnemonic ≠ .xce := fun he => absurd hmn (by rw [he]; decide)
  exact ⟨exec_keeps_flag (j := 5) h (fun k _ hk => (hbits k (mask_of_permitted hk)).1) hp (.inr he),
    exec_keeps_flag (j := 4) h (fun k _ hk => (hbits k (mask_of_permitted hk)).2) hp (.inr he)⟩

/-- R30: the flag d. -/
theorem exec_keeps_flagD (h : exec i s = .next t)
    (hmn : i.mnemonic ∉ [.sed, .cld, .brk, .cop, .plp, .rti, .rep, .sep]) : t.flagD = s.flagD := by
  have hbits : ∀ k ∈ [maskN, maskV, maskZ, maskC], k.getLsbD 3 = false := by decide
  refine exec_keeps_flag (j := 3) h (fun k _ hk => ?_)
    (fun hp => hmn (List.mem_append_right [Mnemonic.sed, .cld, .brk, .cop] hp)) (.inl rfl)
  rcases hk with hk | ⟨-, hk⟩ | ⟨rfl, -⟩
  · exact hbits k hk
  · exact absurd (List.mem_append_left [Mnemonic.plp, .rti, .rep, .sep] hk) hmn
  · rfl

/-- R30: the flag i. -/
theorem exec_keeps_flagI (h : exec i s = .next t)
    (hmn : i.mnemonic ∉ [.sei, .cli, .brk, .cop, .plp, .rti, .rep, .sep]) : t.flagI = s.flagI := by
  have hbits : ∀ k ∈ [maskN, maskV, maskZ, maskC], k.getLsbD 2 = false := by decide
  refine exec_keeps_flag (j := 2) h (fun k _ hk => ?_)
    (fun hp => hmn (List.mem_append_right [Mnemonic.sei, .cli, .brk, .cop] hp)) (.inl rfl)
  rcases hk with hk | ⟨rfl, -⟩ | ⟨-, hk⟩
  · exact hbits k hk
  · rfl
  · exact absurd (List.mem_append_left [Mnemonic.plp, .rti, .rep, .sep] hk) hmn

/-- R21, R22: with an 8-bit accumulator the half `B` is written by the exchange, the 16-bit transfers and the block moves
alone. -/
theorem exec_keeps_hi_c (h : exec i s = .next t) (hm : s.flagM = true)
    (hmn : i.mnemonic ∉ [.xba, .tdc, .tsc, .mvn, .mvp]) : hi t.c = hi s.c := by
  refine exec_keeps (π := fun u => hi u.c) h (fun _ _ => rfl) fun a u ha => ?_
  cases a
  case setA w v =>
    obtain rfl : w = .w8 := by
      rcases ha with rfl | ha
      · rw [State.wM, hm]; rfl
      · exact absurd ha hmn
    exact hi_word _ _
  all_goals rfl

/-- R76, R78: memory is written by the operators that store alone. -/
theorem exec_keeps_readMem (h : exec i s = .next t) (hmn : ¬ WritesMemory i.mnemonic i.operand) (a : Addr) :
    t.readMem a = s.readMem a := by
  refine exec_keeps (π := fun u => u.readMem a) h (fun _ _ => rfl) fun act u ha => ?_
  cases act
  case store | push => exact absurd ha hmn
  all_goals rfl

end Writers

/-- Settles O57: an instruction whose mnemonic is not among the writers of a register or flag keeps it. -/
theorem writersOfSystemRegisters : Obligations.WritersOfSystemRegisters := by
  unfold Obligations.WritersOfSystemRegisters
  intro i s t h
  refine ⟨fun hne => ?_, fun hne => ?_, fun hne => ?_, fun hne => ?_, fun hne => ?_, fun hne => ?_, fun hne => ?_⟩
  · exact by_contra fun hmn => hne (exec_keeps_d h hmn)
  · exact by_contra fun hmn => hne (exec_keeps_dbr h hmn)
  · exact by_contra fun hmn => hne (exec_keeps_pbr h hmn)
  · exact by_contra fun hmn => hne (exec_keeps_e h hmn)
  · by_contra hmn
    obtain ⟨hm, hx⟩ := exec_keeps_widths h hmn
    exact hne.elim (· hm) (· hx)
  · exact by_contra fun hmn => hne (exec_keeps_flagD h hmn)
  · exact by_contra fun hmn => hne (exec_keeps_flagI h hmn)

/-- Settles O58: no instruction but the five writes all of `C` when the accumulator has 8 bits. -/
theorem frozenHalfOfTheAccumulator : Obligations.FrozenHalfOfTheAccumulator := by
  unfold Obligations.FrozenHalfOfTheAccumulator
  exact fun i s t hm h hmn => exec_keeps_hi_c h hm hmn

/-- Settles O60: an instruction of another kind takes no action that writes memory. -/
theorem otherInstructionsKeepMemory : Obligations.OtherInstructionsKeepMemory := by
  unfold Obligations.OtherInstructionsKeepMemory
  intro i s t h hmn hacc
  refine exec_keeps_readMem h fun hw => ?_
  rcases hw with hw | ⟨hw, ho⟩
  · exact hmn hw
  · exact ho (hacc hw)

/-! ### Two states that differ in the flag i -/

/-- `Keeps`, bit by bit. -/
theorem keeps_iff {mask : Byte} {s t : State} :
    Keeps mask s t ↔ ∀ j, mask.getLsbD j = true → t.p.getLsbD j = s.p.getLsbD j := by
  constructor
  · intro h j hj
    have hbit := congrArg (·.getLsbD j) h
    simpa only [BitVec.getLsbD_and, hj, Bool.and_true] using hbit
  · intro h
    refine BitVec.eq_of_getLsbD_eq fun j _ => ?_
    rw [BitVec.getLsbD_and, BitVec.getLsbD_and]
    cases hj : mask.getLsbD j
    · simp
    · rw [h j hj]

theorem keeps_setFlag {mask : Byte} {s t : State} (h : Keeps mask s t) (k : Byte) (b : Bool) :
    Keeps mask (s.setFlag k b) (t.setFlag k b) :=
  keeps_iff.mpr fun j hj => by simp only [State.setFlag_p, putFlag_getLsbD, keeps_iff.mp h j hj]

theorem keeps_setI (s : State) (b : Bool) : Keeps 0xFB s (s.setFlag maskI b) :=
  putFlag_and_of_disjoint s.p maskI 0xFB b (by decide)

/-- The states differ in the flag i at most. -/
def AlikeButI (s s' : State) : Prop := Keeps 0xFB s s' ∧ s' = { s with p := s'.p }

theorem alikeButI_setI (s : State) (b : Bool) : AlikeButI s (s.setFlag maskI b) := ⟨keeps_setI s b, rfl⟩

theorem AlikeButI.wX {s s' : State} (h : AlikeButI s s') : s'.wX = s.wX :=
  congrArg Width.ofFlag (keeps_iff.mp h.1 4 rfl)

/-- R38: `Normalize` does not read the flag i. -/
theorem AlikeButI.normalize {s s' : State} (h : AlikeButI s s') : AlikeButI s.normalize s'.normalize := by
  obtain ⟨hp, hs⟩ := h
  have hbit (j : Nat) (hj : (0xFB : Byte).getLsbD j = true) :
      (forceWidths s'.e s'.p).getLsbD j = (forceWidths s.e s.p).getLsbD j := by
    rw [forceWidths_getLsbD, forceWidths_getLsbD, keeps_iff.mp hp j hj, hs]
  refine ⟨keeps_iff.mpr hbit, ?_⟩
  apply state_eq <;> simp only [State.normalize_c, State.normalize_x, State.normalize_y, State.normalize_sp,
    State.normalize_d, State.normalize_dbr, State.normalize_pbr, State.normalize_pc, State.normalize_e,
    State.normalize_mem, State.normalize_cyc, hbit 4 rfl] <;> rw [hs]

/-- The same action taken in two states that differ in the flag i at most. -/
theorem AlikeButI.run {s s' : State} (h : AlikeButI s s') (a : Action) : AlikeButI (a.run s) (a.run s') := by
  have ⟨hp, hs⟩ := h
  cases a
  case setX v =>
    refine ⟨hp, ?_⟩
    show s'.setX s'.wX v = _
    rw [h.wX, hs]
    rfl
  case setY v =>
    refine ⟨hp, ?_⟩
    show s'.setY s'.wX v = _
    rw [h.wX, hs]
    rfl
  case setFlag k b => exact ⟨keeps_setFlag hp k b, by rw [hs]; rfl⟩
  case setP keep put =>
    refine AlikeButI.normalize ⟨keeps_iff.mpr fun j hj => ?_, by rw [hs]⟩
    simp only [BitVec.getLsbD_or, BitVec.getLsbD_and, keeps_iff.mp hp j hj]
  case setE b => exact AlikeButI.normalize ⟨hp, by rw [hs]⟩
  all_goals exact ⟨hp, by rw [hs]; rfl⟩

theorem AlikeButI.performAll {s s' : State} (h : AlikeButI s s') (as : List Action) :
    AlikeButI (performAll as s) (performAll as s') := by
  induction as generalizing s s' with
  | nil => exact h
  | cons a as ih => exact ih (h.run a)

theorem AlikeButI.addCycles {s s' : State} (h : AlikeButI s s') (n : Int) : AlikeButI (s.addCycles n) (s'.addCycles n) :=
  ⟨h.1, congrArg (·.addCycles n) h.2⟩

/-! ### The instructions that push the status byte -/

/-- The states differ in the flag i and in one byte of memory at most. -/
def AlikeButByte (a : Addr) (s s' : State) : Prop :=
  Keeps 0xFB s s' ∧ s' = { s with p := s'.p, mem := s'.mem } ∧ OnlyStores [a] s s'

/-- R68: different bytes pushed by states that differ in the flag i at most. -/
theorem AlikeButI.push8 {s s' : State} (h : AlikeButI s s') (v v' : Byte) :
    AlikeButByte (addr 0x00 s.sp) (s.push8 v) (s'.push8 v') := by
  obtain ⟨hp, hs⟩ := h
  have hsp : s'.sp = s.sp := by rw [hs]
  refine ⟨hp, by rw [hs]; rfl, fun a ha => ?_⟩
  have ha : a ≠ addr 0x00 s.sp := fun h => ha (List.mem_singleton.mpr h)
  rw [readMem_push8_other s v ha, readMem_push8_other s' v' (hsp ▸ ha), hs]
  rfl

/-- R387: the state of a software interrupt before the status byte is pushed. -/
def beforeStatus (s : State) (ret : Word) : State := (if s.e then s else s.push8 s.pbr).push16 ret

/-- R68: the address of the status byte that a software interrupt pushes. -/
theorem beforeStatus_sp (s : State) (ret : Word) :
    addr 0x00 (beforeStatus s ret).sp = pushedAt s (if s.e then 2 else 3) := by
  unfold beforeStatus pushedAt
  cases h : s.e <;> simp [State.push16, spDown, inPage, pageOne, h]

theorem AlikeButI.beforeStatus {s s' : State} (h : AlikeButI s s') (ret : Word) :
    AlikeButI (beforeStatus s ret) (beforeStatus s' ret) := by
  have hpush (u u' : State) (hu : AlikeButI u u') : AlikeButI (u.push16 ret) (u'.push16 ret) :=
    (hu.run (.push (hi ret))).run (.push (lo ret))
  have he : s'.e = s.e := by rw [h.2]
  have hb : s'.pbr = s.pbr := by rw [h.2]
  unfold Machine.beforeStatus
  rw [he, hb]
  cases s.e
  · exact hpush _ _ (h.run (.push s.pbr))
  · exact hpush _ _ h

/-- R387: the state of a software interrupt before the vector is read. -/
def beforeVector (s : State) (ret : Word) : State :=
  ((((beforeStatus s ret).push8 s.p).setFlag maskI true).setFlag maskD false).setPbr 0x00

theorem takeTrap_eq_setPc (s : State) (vecN vecE : Addr) (ret : Word) :
    s.takeTrap vecN vecE ret =
      (beforeVector s ret).setPc ((beforeVector s ret).readVector (if s.e then vecE else vecN)) := rfl

theorem AlikeButI.beforeVector {s s' : State} (h : AlikeButI s s') (ret : Word) :
    AlikeButByte (pushedAt s (if s.e then 2 else 3)) (beforeVector s ret) (beforeVector s' ret) := by
  obtain ⟨hp, hs, hmem⟩ := (h.beforeStatus ret).push8 s.p s'.p
  rw [beforeStatus_sp] at hmem
  exact ⟨keeps_setFlag (keeps_setFlag hp maskI true) maskD false,
    congrArg (fun u : State => ((u.setFlag maskI true).setFlag maskD false).setPbr 0x00) hs, hmem⟩

/-- R387: both bytes of the vector lie in bank 0x00, one after the other. -/
def InBankZero (vec : Addr) : Prop := addr 0x00 (offOf vec) = vec ∧ addr 0x00 (offOf vec + 1) = vec + 1

/-- R387: a vector reads alike where the byte is not one of its two. -/
theorem AlikeButByte.readVector {a : Addr} {s s' : State} (h : AlikeButByte a s s') {vec : Addr}
    (hvec : InBankZero vec) (ha : a ∉ [vec, vec + 1]) :
    s'.readVector vec = s.readVector vec := by
  obtain ⟨-, -, hmem⟩ := h
  obtain ⟨hlow, hhigh⟩ := hvec
  have hread (b : Addr) (hb : b ∈ [vec, vec + 1]) : s'.readMem b = s.readMem b :=
    hmem b fun hba => ha (List.mem_singleton.mp hba ▸ hb)
  unfold State.readVector
  rw [readBank_two, readBank_two, hlow, hhigh, hread vec (by simp), hread (vec + 1) (by simp)]

/-- What the next states of an instruction that pushes `P` to `a` have in common: all but the flag i, the byte there, and
`PC` where it lies in the vector `vec` (log entry 7). -/
def AlikeAfterPushP (a vec : Addr) (t t' : State) : Prop :=
  Keeps 0xFB t t' ∧ t' = { t with p := t'.p, mem := t'.mem, pc := t'.pc } ∧ OnlyStores [a] t t' ∧
    (a ∉ [vec, vec + 1] → t'.pc = t.pc)

/-- R30, R386: an instruction that does not push the status byte. -/
theorem exec_alikeButI {i : Instr} (hmn : i.mnemonic ∉ [.php, .brk, .cop]) {s t : State} (h : exec i s = .next t) (b : Bool) :
    ∃ t', exec i (s.setFlag maskI b) = .next t' ∧ AlikeButI t t' := by
  obtain ⟨as, n, -, rfl, hi⟩ := exec_actions h
  exact ⟨_, hi hmn b, ((alikeButI_setI s b).performAll as).addCycles n⟩

/-- R269, R386: a software interrupt taken from states that differ in the flag i at most. -/
theorem takeTrap_alike {s s' : State} (h : AlikeButI s s') {vecN vecE : Addr} (ret : Word)
    (hN : InBankZero vecN) (hE : InBankZero vecE) :
    AlikeAfterPushP (pushedAt s (if s.e then 2 else 3)) (if s.e then vecE else vecN) (s.takeTrap vecN vecE ret)
      (s'.takeTrap vecN vecE ret) := by
  have hv := h.beforeVector ret
  have ⟨hp, hs, hmem⟩ := hv
  have he : s'.e = s.e := by rw [h.2]
  have hvec : InBankZero (if s.e then vecE else vecN) := by
    split
    · exact hE
    · exact hN
  rw [takeTrap_eq_setPc, takeTrap_eq_setPc, he]
  exact ⟨hp, congrArg (fun u : State => u.setPc _) hs, hmem, hv.readVector hvec⟩

/-- R269, R270, R386: an instruction that takes a software interrupt. -/
theorem exec_trap_alike {i : Instr} {op : Byte} {vecN vecE : Addr} {f : Formed Unit}
    (hi : ∀ u, exec i u = chargeCycles (trapWith op vecN vecE f u))
    (hN : InBankZero vecN) (hE : InBankZero vecE) (s : State) (b : Bool) :
    ∃ t t', exec i s = .next t ∧ exec i (s.setFlag maskI b) = .next t' ∧
      AlikeAfterPushP (pushedAt s (if s.e then 2 else 3)) (if s.e then vecE else vecN) t t' := by
  refine ⟨_, _, hi s, hi (s.setFlag maskI b), ?_⟩
  obtain ⟨hp, hs, hmem, hpc⟩ :=
    takeTrap_alike (alikeButI_setI (s.advance f.len) b) (s.pc + 2) hN hE
  exact ⟨hp, congrArg (fun u : State => u.addCycles _) hs, hmem, hpc⟩

/-- R294, R386: PHP. -/
theorem exec_php_alike (s : State) (b : Bool) (vec : Addr) :
    ∃ t t', exec .php s = .next t ∧ exec .php (s.setFlag maskI b) = .next t' ∧
      AlikeAfterPushP (pushedAt s 0) vec t t' ∧ t'.pc = t.pc := by
  refine ⟨_, _, rfl, rfl, ?_⟩
  obtain ⟨hp, hs, hmem⟩ := (alikeButI_setI (s.advance 1) b).push8 s.p (s.setFlag maskI b).p
  exact ⟨⟨hp, congrArg (fun u : State => u.addCycles _) hs, hmem, fun _ => rfl⟩, rfl⟩

/-- R100: the instructions that push `P`. -/
theorem pushers_of_status {i : Instr} (h : i.mnemonic ∈ [.php, .brk, .cop]) :
    i = .php ∨ ∃ sig, i = .brk sig ∨ i = .cop sig := by
  cases i
  case php => exact .inl rfl
  case brk sig => exact .inr ⟨sig, .inl rfl⟩
  case cop sig => exact .inr ⟨sig, .inr rfl⟩
  all_goals exact absurd h (of_decide_eq_false rfl)

/-- Settles O59: an instruction that does not push `P` takes the same actions in both states; PHP, BRK and COP push bytes that
may differ, to the same address. -/
theorem interruptFlagGatesNothing : Obligations.InterruptFlagGatesNothing := by
  unfold Obligations.InterruptFlagGatesNothing
  intro i s b hmn
  by_cases hpush : i.mnemonic ∈ [.php, .brk, .cop]
  · rcases pushers_of_status hpush with rfl | ⟨sig, rfl | rfl⟩
    · obtain ⟨t, t', ht, ht', ⟨hp, hs, hmem, -⟩, hpc⟩ := exec_php_alike s b 0
      exact ⟨t, t', ht, ht', hp, fun h => absurd hpush h, fun _ => ⟨hs, hmem, fun _ => hpc⟩⟩
    · obtain ⟨t, t', ht, ht', hp, hs, hmem, hpc⟩ :=
        exec_trap_alike (i := .brk sig) (f := modeSig sig) (fun _ => rfl) ⟨rfl, rfl⟩ ⟨rfl, rfl⟩ s b
      exact ⟨t, t', ht, ht', hp, fun h => absurd hpush h, fun _ => ⟨hs, hmem, fun h => hpc (h.resolve_left nofun)⟩⟩
    · obtain ⟨t, t', ht, ht', hp, hs, hmem, hpc⟩ :=
        exec_trap_alike (i := .cop sig) (f := modeSig sig) (fun _ => rfl) ⟨rfl, rfl⟩ ⟨rfl, rfl⟩ s b
      exact ⟨t, t', ht, ht', hp, fun h => absurd hpush h, fun _ => ⟨hs, hmem, fun h => hpc (h.resolve_left nofun)⟩⟩
  · obtain ⟨t, ht⟩ := exec_completes hmn s
    obtain ⟨t', ht', hp, hs⟩ := exec_alikeButI hpush ht b
    exact ⟨t, t', ht, ht', hp, fun _ => hs, fun h => absurd h hpush⟩

end Sys2Proof.Machine

/-! PROOFS. The step in the words of the decoder, and the locations of the direct-page and absolute modes in the formulas of the
statements over natural numbers. -/

namespace Sys2Proof.Machine

open Sys2Proof.Claims

/-! ### The step runs the decoded instruction -/

/-- R94, R362: what the four bytes from `PBR:PC` on decode to under the live flags is what a state fetches. -/
theorem fetchInstr_of_decode {s : State} {i : Instr} {rest : List Byte}
    (h : decode s.flagM s.flagX [s.readMem (addr s.pbr s.pc), s.readMem (addr s.pbr (s.pc + 1)),
      s.readMem (addr s.pbr (s.pc + 2)), s.readMem (addr s.pbr (s.pc + 3))] = .ok (i, rest)) :
    s.fetchInstr = .ok i := by
  rw [State.fetchInstr, State.fetchBytes, fetch_zero]
  exact congrArg (Except.map Prod.fst) h

/-- R345, R346, R381: the meaning of an instruction whose opcode byte is in the default `UNIMPL` is the failure with that byte. -/
theorem exec_unimplemented {i : Instr} (h : i.opcode ∈ Parameters.std.unimpl) (s : State) :
    exec i s = .fault (.unimplementedInstruction i.opcode) := by
  cases i
  case wai | stp => rfl
  all_goals exact absurd h (of_decide_eq_false rfl)

/-- Settles O6: where the step fails before it decodes, the instruction is WAI or STP, whose meaning is the same failure. -/
theorem stepRunsTheDecodedInstruction : Obligations.StepRunsTheDecodedInstruction := by
  unfold Obligations.StepRunsTheDecodedInstruction
  intro s i rest h
  have hi := fetchInstr_of_decode h
  rcases step_eq s with ⟨hu, hs⟩ | ⟨-, j, hj, hs⟩
  · obtain ⟨hop, -, -⟩ := selected_of_fetchInstr hi
    rw [← hop] at hu hs
    rw [hs, exec_unimplemented ((unimplementedEntry_iff _ _).mp hu)]
  · rw [hi] at hj
    cases hj
    exact hs

/-! ### Addresses and pointers -/

/-- R60, R63: an index added to a 24-bit address, linearly. -/
theorem addr_add_index (a : Addr) (x : Word) :
    a + x.setWidth 24 = BitVec.ofNat 24 ((a.toNat + x.toNat) % 0x1000000) := by
  apply BitVec.eq_of_toNat_eq; simp

/-- R66: `DPAddr(t)` at any parameters. -/
theorem dpAddr_at (s : State) (t : Nat) (P : Parameters) :
    dpAddr s t P = BitVec.ofNat 16 (if P.dpEWrap then dpOff s t else (s.d.toNat + t) % 0x10000) := by
  unfold dpAddr
  cases P.dpEWrap
  · exact dpAddrN_eq s t
  · exact dpAddr_eq s t

/-- R82 `PtrDP16(t)`. -/
theorem ptrDp16_eq (s : State) (t : Nat) : ptrDp16 s t = BitVec.ofNat 16 (dpPtr s t) := by
  rw [← ptrDp16_toNat, BitVec.ofNat_toNat, BitVec.setWidth_eq]

/-- R82 `PtrDPN24(t)`. -/
theorem ptrDpN24_eq (s : State) (t : Nat) : ptrDpN24 s t = BitVec.ofNat 24 (dpPtrLong s t) := by
  rw [← ptrDpN24_toNat, BitVec.ofNat_toNat, BitVec.setWidth_eq]

/-! ### The data location -/

/-- R83: at the default of `INDEX_CROSSES_BANK` the index wraps inside the bank. -/
theorem dataLoc_std (bank : Byte) (base idx : Word) :
    dataLoc bank base idx = .memBank bank (BitVec.ofNat 16 ((base.toNat + idx.toNat) % 0x10000)) :=
  congrArg (Loc.memBank bank) (BitVec.eq_of_toNat_eq (by simp))

/-- R83: with no index the data location is the base itself. -/
theorem dataLoc_std_zero (bank : Byte) (base : Word) : dataLoc bank base 0 = .memBank bank base :=
  congrArg (Loc.memBank bank) (BitVec.add_zero base)

/-- R83: the data location at any parameters. -/
theorem dataLoc_at (bank : Byte) (base idx : Word) (P : Parameters) :
    dataLoc bank base idx P = if P.indexCrossesBank
      then .memLong (BitVec.ofNat 24 (0x10000 * bank.toNat + base.toNat + idx.toNat))
      else .memBank bank (BitVec.ofNat 16 (base.toNat + idx.toNat)) := by
  have hlinear : addr bank base + idx.setWidth 24 =
      BitVec.ofNat 24 (0x10000 * bank.toNat + base.toNat + idx.toNat) := by
    apply BitVec.eq_of_toNat_eq
    simp [addr_toNat, Nat.mul_comm]
  rw [dataLoc, dataLocWith, hlinear]
  rfl

/-! ### The modes -/

/-- Settles O17: the three modes differ in the offset from `D` alone. -/
theorem directPageLocations : Obligations.DirectPageLocations := by
  unfold Obligations.DirectPageLocations
  intro op dd s row hrow
  have hloc (P : Parameters) : modeLoc op row.1 s P = some ⟨2, .memBank 0x00 (dpAddr s row.2 P), dlPen s⟩ := by
    simp only [List.mem_cons, List.not_mem_nil, or_false] at hrow
    rcases hrow with rfl | rfl | rfl <;> rfl
  exact ⟨by rw [hloc, dpAddr_eq, dlPen_eq], fun P => by rw [hloc, dpAddr_at, dlPen_eq]⟩

/-- Settles O18, from the pointers as numbers and the data location at the default parameters. -/
theorem directPageIndirectLocations : Obligations.DirectPageIndirectLocations := by
  unfold Obligations.DirectPageIndirectLocations
  intro op dd s
  refine ⟨?_, ?_, ?_, ?_, ?_⟩
  · rw [modeLoc, modeIdp, dataLoc_std_zero, ptrDp16_eq, dlPen_eq]
  · rw [modeLoc, modeIdpx, dataLoc_std_zero, ptrDp16_eq, dlPen_eq]
  · simp only [modeLoc, modeIdpy]
    rw [dataLoc_std, dlPen_eq, pxPen_eq op .idpy s (c := indexCrosses (.idpy dd) s) (by rw [ptrDp16_toNat]; rfl),
      ptrDp16_toNat]
  · rw [modeLoc, modeIldp, ptrDpN24_eq, dlPen_eq]
  · rw [modeLoc, modeIldpy, addr_add_index, ptrDpN24_toNat, dlPen_eq]

/-- Settles O19: `a,X` and `a,Y` differ in the index alone, and `a` has the index 0. -/
theorem absoluteLocations : Obligations.AbsoluteLocations := by
  unfold Obligations.AbsoluteLocations
  intro op aa al s
  simp only [List.forall_mem_cons, List.not_mem_nil, false_imp_iff, implies_true, and_true]
  refine ⟨?_, ⟨?_, ?_⟩, rfl, ?_, fun P => ⟨?_, ?_, ?_⟩⟩
  · rw [modeLoc, modeAbs, dataLoc_std_zero]
  · rw [modeLoc, modeAbsx, dataLoc_std, pxPen_eq op .absx s (c := indexCrosses (.absx aa) s) rfl]
  · rw [modeLoc, modeAbsy, dataLoc_std, pxPen_eq op .absy s (c := indexCrosses (.absy aa) s) rfl]
  · rw [modeLoc, modeLongx, addr_add_index]
  · exact congrArg some (dataLoc_at s.dbr aa 0 P)
  · exact congrArg some (dataLoc_at s.dbr aa s.x P)
  · exact congrArg some (dataLoc_at s.dbr aa s.y P)

end Sys2Proof.Machine

/-! PROOFS. The encoding (R90 to R97): a cell of the matrix reads its operand bytes by its format, the bytes it reads are those the
encoder writes, and every instruction that the flags select stands in the cell of its opcode byte. -/

namespace Sys2Proof

section Reading

variable {m x : Bool} {op : Byte} {e : Entry} {i : Instr} {bs bytes rest : List Byte}

/-! ### What a cell reads -/

/-- R91 to R93: under the flags `m` and `x`, a cell reads the operand bytes `bs` as the instruction `i`, by its format. -/
inductive Entry.Reads (m x : Bool) : Entry → Instr → List Byte → Prop where
  | f1 (i : Instr) : Reads m x (.f1 i) i []
  | f2 (mk : Byte → Instr) (b : Byte) : Reads m x (.f2 mk) (mk b) [b]
  | f2mNarrow {mk8 : Byte → Instr} {mk16 : Word → Instr} (hm : m) (b : Byte) : Reads m x (.f2m mk8 mk16) (mk8 b) [b]
  | f2mWide {mk8 : Byte → Instr} {mk16 : Word → Instr} (hm : !m) (v : Word) :
      Reads m x (.f2m mk8 mk16) (mk16 v) [lo v, hi v]
  | f2xNarrow {mk8 : Byte → Instr} {mk16 : Word → Instr} (hx : x) (b : Byte) : Reads m x (.f2x mk8 mk16) (mk8 b) [b]
  | f2xWide {mk8 : Byte → Instr} {mk16 : Word → Instr} (hx : !x) (v : Word) :
      Reads m x (.f2x mk8 mk16) (mk16 v) [lo v, hi v]
  | f3 (mk : Word → Instr) (v : Word) : Reads m x (.f3 mk) (mk v) [lo v, hi v]
  | f3b (mk : Byte → Byte → Instr) (dst src : Byte) : Reads m x (.f3b mk) (mk dst src) [dst, src]
  | f4 (mk : Addr → Instr) (a : Addr) : Reads m x (.f4 mk) (mk a) [lo (offOf a), hi (offOf a), bankOf a]

theorem Entry.reads_f3_word (mk : Word → Instr) (b1 b2 : Byte) : (Entry.f3 mk).Reads m x (mk (word b1 b2)) [b1, b2] := by
  simpa using Reads.f3 (m := m) (x := x) mk (word b1 b2)

theorem Entry.reads_f4_addr (mk : Addr → Instr) (b1 b2 b3 : Byte) :
    (Entry.f4 mk).Reads m x (mk (addr b3 (word b1 b2))) [b1, b2, b3] := by
  simpa using Reads.f4 (m := m) (x := x) mk (addr b3 (word b1 b2))

/-- R92: a cell decodes the operand bytes it reads, and leaves the bytes after them. -/
theorem Entry.Reads.decodeEntry_append (h : e.Reads m x i bs) (op : Byte) (rest : List Byte) :
    decodeEntry m x op e (bs ++ rest) = .ok (i, rest) := by
  cases h <;> simp_all [decodeEntry, decodeEntry.decodeImm]

/-- R93: the immediate of a width-dependent cell is a byte at width 8 and a word at width 16. -/
theorem eq_of_decodeImm {w : Width} {mk8 : Byte → Instr} {mk16 : Word → Instr}
    (h : decodeEntry.decodeImm op w mk8 mk16 bytes = .ok (i, rest)) :
    (w = .w8 ∧ ∃ b, i = mk8 b ∧ bytes = b :: rest) ∨ (w = .w16 ∧ ∃ v, i = mk16 v ∧ bytes = lo v :: hi v :: rest) := by
  simp only [decodeEntry.decodeImm] at h
  split at h
  · cases h
    exact .inl ⟨rfl, _, rfl, rfl⟩
  · cases h
    exact .inr ⟨rfl, _, rfl, by simp⟩
  · cases h

/-- R92: what a cell decodes it has read from the bytes before those it leaves. -/
theorem Entry.exists_reads_of_decodeEntry (h : decodeEntry m x op e bytes = .ok (i, rest)) :
    ∃ bs, e.Reads m x i bs ∧ bs ++ rest = bytes := by
  cases e with
  | f1 =>
    cases h
    exact ⟨_, .f1 i, rfl⟩
  | f2 mk =>
    rcases bytes with _ | ⟨b, bytes⟩ <;> cases h
    exact ⟨_, .f2 mk b, rfl⟩
  | f2m mk8 mk16 =>
    simp only [decodeEntry] at h
    obtain ⟨hw, b, rfl, rfl⟩ | ⟨hw, v, rfl, rfl⟩ := eq_of_decodeImm h
    · exact ⟨_, .f2mNarrow (by simpa using hw) b, rfl⟩
    · exact ⟨_, .f2mWide (by simpa using hw) v, rfl⟩
  | f2x mk8 mk16 =>
    simp only [decodeEntry] at h
    obtain ⟨hw, b, rfl, rfl⟩ | ⟨hw, v, rfl, rfl⟩ := eq_of_decodeImm h
    · exact ⟨_, .f2xNarrow (by simpa using hw) b, rfl⟩
    · exact ⟨_, .f2xWide (by simpa using hw) v, rfl⟩
  | f3 mk =>
    rcases bytes with _ | ⟨b1, _ | ⟨b2, bytes⟩⟩ <;> cases h
    exact ⟨_, reads_f3_word mk b1 b2, rfl⟩
  | f3b mk =>
    rcases bytes with _ | ⟨b1, _ | ⟨b2, bytes⟩⟩ <;> cases h
    exact ⟨_, .f3b mk b1 b2, rfl⟩
  | f4 mk =>
    rcases bytes with _ | ⟨b1, _ | ⟨b2, _ | ⟨b3, bytes⟩⟩⟩ <;> cases h
    exact ⟨_, reads_f4_addr mk b1 b2 b3, rfl⟩

/-- R90, R92, R94: the decoder answers `i` and leaves `rest` exactly where the cell of the first byte reads `i` from the bytes
between. -/
theorem decode_cons_eq_ok_iff :
    decode m x (op :: bytes) = .ok (i, rest) ↔ ∃ e bs, entryOf op = some e ∧ e.Reads m x i bs ∧ bs ++ rest = bytes := by
  constructor
  · intro h
    obtain ⟨e, he⟩ := Option.isSome_iff_exists.mp (entryOf_isSome op)
    simp only [decode, he] at h
    obtain ⟨bs, hr, hbs⟩ := Entry.exists_reads_of_decodeEntry h
    exact ⟨e, bs, he, hr, hbs⟩
  · rintro ⟨e, bs, he, hr, rfl⟩
    simp only [decode, he, hr.decodeEntry_append]

/-! ### The matrix against the rows of the instructions -/

/-- R91, R94, R100: what a cell of the matrix reads is encoded by the opcode byte of the cell and the bytes read, and the live
flags select it. -/
theorem Entry.Reads.encoding (h : e.Reads m x i bs) (he : entryOf op = some e) :
    i.opcode = op ∧ i.operand.bytes = bs ∧ i.wellFormed m x := by
  obtain ⟨n, hn, rfl⟩ : ∃ n, n < 256 ∧ op = BitVec.ofNat 8 n := ⟨op.toNat, op.isLt, by simp⟩
  -- An immediate of a width-dependent cell is selected by the flag it was read under, every other operand by any flags.
  interval_cases n <;>
  · obtain rfl := Option.some.inj (show some _ = some e from he)
    cases h <;> exact ⟨rfl, rfl, by first | rfl | assumption⟩

/-- R94, R100: the cell of the opcode byte of an instruction that the live flags select reads its operand bytes. -/
theorem exists_entry_reads (h : i.wellFormed m x) :
    ∃ e, entryOf i.opcode = some e ∧ e.Reads m x i i.operand.bytes := by
  cases i <;>
  · refine ⟨_, show entryOf (BitVec.ofNat 8 _) = some _ from rfl, ?_⟩
    constructor <;> exact h

/-- R91, R94: what the decoder reads is what the encoder writes, selected by the live flags. -/
theorem encode_of_decode (h : decode m x bytes = .ok (i, rest)) : encode i ++ rest = bytes ∧ i.wellFormed m x := by
  cases bytes with
  | nil => cases h
  | cons op bytes =>
    obtain ⟨e, bs, he, hr, rfl⟩ := decode_cons_eq_ok_iff.mp h
    obtain ⟨rfl, rfl, hw⟩ := hr.encoding he
    exact ⟨rfl, hw⟩

/-- R91: no format has more than three operand bytes. -/
theorem Operand.bytes_length_le (o : Operand) : o.bytes.length ≤ 3 := by
  cases o <;> exact Nat.le_of_ble_eq_true rfl

/-! ### The cells whose length follows a flag -/

/-- R93: the immediate of the cell follows `m` (format F2M). -/
def Entry.followsM : Entry → Bool
  | .f2m _ _ => true
  | _ => false

/-- R93: the immediate of the cell follows `x` (format F2X). -/
def Entry.followsX : Entry → Bool
  | .f2x _ _ => true
  | _ => false

/-- R93, R100: the cells that follow `m` are those of the MIMM opcodes. -/
theorem followsM_iff_mem_mimm (he : entryOf op = some e) : e.followsM ↔ op ∈ mimm := by
  have hall : ∀ op, (entryOf op).any Entry.followsM = decide (op ∈ mimm) := by decide
  simpa [he] using congrArg (· = true) (hall op)

/-- R93, R100: the cells that follow `x` are those of the XIMM opcodes. -/
theorem followsX_iff_mem_ximm (he : entryOf op = some e) : e.followsX ↔ op ∈ ximm := by
  have hall : ∀ op, (entryOf op).any Entry.followsX = decide (op ∈ ximm) := by decide
  simpa [he] using congrArg (· = true) (hall op)

/-- R93: a cell that follows `m` reads one operand byte when `m = 1` and two when `m = 0`. -/
theorem Entry.Reads.length_of_followsM (h : e.Reads m x i bs) (hf : e.followsM) : bs.length = if m then 1 else 2 := by
  cases h <;> simp_all [followsM]

/-- R93: a cell that follows `x` reads one operand byte when `x = 1` and two when `x = 0`. -/
theorem Entry.Reads.length_of_followsX (h : e.Reads m x i bs) (hf : e.followsX) : bs.length = if x then 1 else 2 := by
  cases h <;> simp_all [followsX]

/-- R95: a cell that follows neither flag reads alike under all flags. -/
theorem Entry.Reads.of_follows_neither (h : e.Reads m x i bs) (hm : ¬ e.followsM) (hx : ¬ e.followsX) (m' x' : Bool) :
    e.Reads m' x' i bs := by
  cases h with
  | f2mNarrow | f2mWide => exact absurd rfl hm
  | f2xNarrow | f2xWide => exact absurd rfl hx
  | f1 | f2 | f3 | f3b | f4 => constructor

end Reading

/-! ### The statements -/

/-- Settles O1: the cell of the opcode byte reads the operand bytes. -/
theorem decodeOfEncode : Obligations.DecodeOfEncode := by
  unfold Obligations.DecodeOfEncode
  intro m x i rest h
  obtain ⟨e, he, hr⟩ := exists_entry_reads h
  exact decode_cons_eq_ok_iff.mpr ⟨e, _, he, hr, rfl⟩

/-- Settles O2, from what the cell of the first byte reads. -/
theorem encodeOfDecode : Obligations.EncodeOfDecode := by
  unfold Obligations.EncodeOfDecode
  intro m x bytes i rest h
  exact encode_of_decode h

/-- Settles O3: the four bytes are the encoding and the bytes left, so the length of the encoding says where those begin. -/
theorem everyByteSelectsAnEntry : Obligations.EveryByteSelectsAnEntry := by
  unfold Obligations.EveryByteSelectsAnEntry
  intro m x op b1 b2 b3
  obtain ⟨i, rest, h⟩ := decode_four m x op b1 b2 b3
  obtain ⟨henc, -⟩ := encode_of_decode h
  obtain ⟨-, hlen, hpos, hle⟩ := Laws.EncodedShape.of_operand i.operand.bytes_length_le
  have hop : i.opcode = op := (List.cons.inj henc).1
  have hrest : rest = [op, b1, b2, b3].drop i.length := by rw [← henc, List.drop_left' hlen]
  exact ⟨i, rest, h, hop, hpos, hle, hrest⟩

/-- Settles O4: the format of the cell says whether a flag governs the operand's length. -/
theorem lengthFollowsTheLiveFlags : Obligations.LengthFollowsTheLiveFlags := by
  unfold Obligations.LengthFollowsTheLiveFlags
  intro m x op b1 b2 b3 i rest h
  obtain ⟨e, bs, he, hr, hbs⟩ := decode_cons_eq_ok_iff.mp h
  obtain ⟨-, hi, -⟩ := hr.encoding he
  have hlen : i.length = 1 + bs.length := by rw [Instr.length, hi]
  have hm : e.followsM ↔ op ∈ mimm := followsM_iff_mem_mimm he
  have hx : e.followsX ↔ op ∈ ximm := followsX_iff_mem_ximm he
  refine ⟨fun hop => ?_, fun hop => ?_, fun hop m' x' => ?_⟩
  · rw [hlen, hr.length_of_followsM (hm.mpr hop)]
    cases m <;> rfl
  · rw [hlen, hr.length_of_followsX (hx.mpr hop)]
    cases x <;> rfl
  · obtain ⟨hopm, hopx⟩ := not_or.mp (mt (List.mem_append (s := mimm) (t := ximm)).mpr hop)
    exact decode_cons_eq_ok_iff.mpr ⟨e, bs, he, hr.of_follows_neither (mt hm.mp hopm) (mt hx.mp hopx) m' x', hbs⟩

/-- Settles O5: each word is decoded by evaluation. -/
theorem writtenOutWordsDecode : Obligations.WrittenOutWordsDecode := by
  unfold Obligations.WrittenOutWordsDecode
  and_intros <;> decide

end Sys2Proof

/-! PROOFS. The stack-relative locations (R142, R143), and the read-modify-write operators INC, DEC, ASL, LSR, ROL, ROR: one
operator in the words of the statements for the six of the model, in any mode, and what it does to the accumulator (R125, R165,
R166, R185 to R188). -/

namespace Sys2Proof.Machine

open Sys2Proof.Claims

/-! ### The stack-relative locations -/

/-- R142: an unsigned offset of one byte from `S`. -/
theorem sp_add_offset (s : State) (sr : Byte) :
    s.sp + sr.setWidth 16 = BitVec.ofNat 16 ((s.sp.toNat + sr.toNat) % 0x10000) := by
  apply BitVec.eq_of_toNat_eq
  simp

/-- R143: the pointer of `isry`, two bytes of bank 0x00. -/
theorem isryPointer_toNat (s : State) (sr : Byte) :
    (BitVec.ofNat 16 (s.readBank 0x00 (s.sp + sr.setWidth 16) 2)).toNat =
      byteAt s 0x00 ((s.sp.toNat + sr.toNat) % 0x10000) +
        0x100 * byteAt s 0x00 ((s.sp.toNat + sr.toNat + 1) % 0x10000) := by
  have hnext : s.sp + sr.setWidth 16 + 1 = BitVec.ofNat 16 ((s.sp.toNat + sr.toNat + 1) % 0x10000) := by
    apply BitVec.eq_of_toNat_eq
    simp
  rw [readBank_two, word_toNat, hnext, sp_add_offset]
  rfl

/-- Settles O20, from the offset and the pointer as numbers and the data location at the default parameters. -/
theorem stackRelativeLocations : Obligations.StackRelativeLocations := by
  unfold Obligations.StackRelativeLocations
  intro op sr s
  constructor
  · rw [modeLoc, modeSr, sp_add_offset]
  · rw [modeLoc, modeIsry, dataLoc_std, isryPointer_toNat]

/-! ### The values that the read-modify-write operators compute -/

/-- R165, R166, R185 to R188: the operators that write back a result with n and z; the shifts set c too. -/
def rmwOps : List Mnemonic := [.inc, .dec, .asl, .lsr, .rol, .ror]

/-- R165, R166, R185 to R188: the carry after such an operator read `v`. -/
def rmwCarry (op : Mnemonic) (s : State) (v : Nat) : Bool :=
  if op ∈ [.inc, .dec] then s.flagC else shiftedOut op s.flagM v

section Values

variable (f c : Bool) {v : Word} (a : Nat)

/-- R165: the result of INC. -/
theorem inc_toNat (v : Word) : (truncTo (.ofFlag f) (v + 1)).toNat = rmwValue .inc f v.toNat a c.toNat := by
  rw [truncTo_toNat, ← size_eq, rmwValue, BitVec.toNat_add]
  exact Nat.mod_mod_of_dvd _ (by cases f <;> decide)

/-- R166: the result of DEC. -/
theorem dec_toNat (v : Word) : (truncTo (.ofFlag f) (v - 1)).toNat = rmwValue .dec f v.toNat a c.toNat := by
  rw [truncTo_toNat, ← size_eq, rmwValue, BitVec.toNat_sub]
  cases f <;> simp [size] <;> omega

/-- R185: the result of ASL. -/
theorem asl_toNat (v : Word) : (truncTo (.ofFlag f) (v <<< 1)).toNat = rmwValue .asl f v.toNat a c.toNat := by
  rw [truncTo_toNat, ← size_eq, rmwValue, BitVec.toNat_shiftLeft, Nat.shiftLeft_eq, Nat.mul_comm]
  exact Nat.mod_mod_of_dvd _ (by cases f <;> decide)

/-- R186: the result of LSR. -/
theorem lsr_toNat (v : Word) : (v >>> 1).toNat = rmwValue .lsr f v.toNat a c.toNat := by
  rw [BitVec.toNat_ushiftRight, Nat.shiftRight_eq_div_pow]
  rfl

/-- R187: the result of ROL; the bit that comes in at the bottom is added. -/
theorem rol_toNat (v : Word) :
    (truncTo (.ofFlag f) (v <<< 1 ||| BitVec.ofNat 16 c.toNat)).toNat = rmwValue .rol f v.toNat a c.toNat := by
  have hsum : v.toNat <<< 1 ||| c.toNat = 2 * v.toNat + c.toNat := by
    rw [← Nat.shiftLeft_add_eq_or_of_lt (by cases c <;> decide), Nat.shiftLeft_eq, Nat.mul_comm]
  have hshift : v <<< 1 = BitVec.ofNat 16 (v.toNat <<< 1) := BitVec.eq_of_toNat_eq (by simp)
  rw [hshift, ← BitVec.ofNat_or, hsum, truncTo_toNat, ← size_eq, rmwValue, BitVec.toNat_ofNat]
  exact Nat.mod_mod_of_dvd _ (by cases f <;> decide)

/-- R188: the result of ROR; the bit that comes in at the top is added. -/
theorem ror_toNat (hv : v.toNat < size f) :
    (v >>> 1 ||| BitVec.ofNat 16 c.toNat <<< ((Width.ofFlag f).bits - 1)).toNat =
      rmwValue .ror f v.toNat a c.toNat := by
  have hsize : size f = 2 ^ 1 * 2 ^ ((Width.ofFlag f).bits - 1) := by cases f <;> rfl
  have hlow : v.toNat / 2 ^ 1 < 2 ^ ((Width.ofFlag f).bits - 1) := Nat.div_lt_of_lt_mul (hsize ▸ hv)
  have htop : (BitVec.ofNat 16 c.toNat <<< ((Width.ofFlag f).bits - 1)).toNat =
      c.toNat <<< ((Width.ofFlag f).bits - 1) := by
    cases f <;> cases c <;> rfl
  rw [BitVec.toNat_or, BitVec.toNat_ushiftRight, htop, Nat.shiftRight_eq_div_pow, Nat.or_comm,
    ← Nat.shiftLeft_add_eq_or_of_lt hlow, Nat.shiftLeft_eq, Nat.add_comm]
  cases f <;> rfl

end Values

/-- R165, R166, R185 to R188: the result fits the width. -/
theorem rmwValue_lt {op : Mnemonic} (hop : op ∈ rmwOps) {f : Bool} {v : Nat} (hv : v < size f) (a : Nat) (c : Bool) :
    rmwValue op f v a c.toNat < size f := by
  have heven : 2 * (size f / 2) = size f := by cases f <;> rfl
  simp only [rmwOps, List.mem_cons, List.not_mem_nil, or_false] at hop
  rcases hop with rfl | rfl | rfl | rfl | rfl | rfl
  · exact Nat.mod_lt _ (size_pos f)
  · exact Nat.mod_lt _ (size_pos f)
  · exact Nat.mod_lt _ (size_pos f)
  · exact (Nat.div_le_self v 2).trans_lt hv
  · exact Nat.mod_lt _ (size_pos f)
  · have hcarry : c.toNat * (size f / 2) ≤ 1 * (size f / 2) := Nat.mul_le_mul_right _ c.toNat_le
    simp only [rmwValue]
    omega

/-- R185, R187: the bit shifted out at the top. -/
theorem msbOf_eq_testBit_top (f : Bool) (v : Word) : msbOf (.ofFlag f) v = v.toNat.testBit (top f) := by
  rw [msbOf_eq_testBit, top_eq]

/-! ### One operator for the six -/

/-- R165, R166, R185 to R188: the operator `op` in the words of the statements: it writes its value back, then c, n and z. -/
def opRmw (op : Mnemonic) (loc : Loc) (s : State) : Except Refusal State :=
  let v := value s loc s.flagM
  let r := BitVec.ofNat 16 (rmwValue op s.flagM v (acc s) s.flagC.toNat)
  (s.locWrite loc s.wM r).map fun t => (t.setFlag maskC (rmwCarry op s v)).setNZ s.wM r

/-- R33: the carry written as it is. -/
theorem setFlag_flagC (s : State) : s.setFlag maskC s.flagC = s := by
  have hp : putFlag s.p maskC s.flagC = s.p := by
    apply BitVec.eq_of_getLsbD_eq
    intro j _
    have hbit : maskC.getLsbD j = true ↔ j = 0 := by simp [maskC]
    rw [putFlag_getLsbD]
    split
    · next h => rw [hbit.mp h]; rfl
    · rfl
  rw [State.setFlag, hp]

/-- R165, R166: an operator that leaves c alone writes it as it was. -/
theorem locWrite_map_keeping_carry (s : State) (loc : Loc) (w : Width) (v : Word) (g : State → State) :
    ((s.locWrite loc w v).map fun t => g (t.setFlag maskC s.flagC)) = (s.locWrite loc w v).map g := by
  cases h : s.locWrite loc w v with
  | error e => rfl
  | ok t =>
    obtain ⟨hframe, -, -⟩ := locWrite_frame h
    have hc : s.flagC = t.flagC := by rw [hframe]; rfl
    rw [Except.map, Except.map, hc, setFlag_flagC]

section OperatorEquations

variable (loc : Loc) (s : State)

/-- An operator is `opRmw op` when its result and its carry are those of `op`, for the value it reads. -/
theorem eq_opRmw {op : Mnemonic} {r : Word} {k : Bool}
    (hr : r.toNat = rmwValue op s.flagM (s.locRead loc s.wM).toNat (acc s) s.flagC.toNat)
    (hk : k = rmwCarry op s (s.locRead loc s.wM).toNat) :
    ((s.locWrite loc s.wM r).map fun t => (t.setFlag maskC k).setNZ s.wM r) = opRmw op loc s := by
  have hv : (s.locRead loc s.wM).toNat = value s loc s.flagM := value_eq s loc s.flagM
  rw [opRmw, ← hv, ← hr, ← hk, BitVec.ofNat_toNat, BitVec.setWidth_eq]

theorem opInc_eq : opInc loc s = opRmw .inc loc s :=
  (locWrite_map_keeping_carry s loc _ _ _).symm.trans (eq_opRmw loc s (inc_toNat _ _ _ _) rfl)

theorem opDec_eq : opDec loc s = opRmw .dec loc s :=
  (locWrite_map_keeping_carry s loc _ _ _).symm.trans (eq_opRmw loc s (dec_toNat _ _ _ _) rfl)

theorem opAsl_eq : opAsl loc s = opRmw .asl loc s :=
  eq_opRmw loc s (asl_toNat _ _ _ _) (msbOf_eq_testBit_top _ _)

theorem opLsr_eq : opLsr loc s = opRmw .lsr loc s :=
  eq_opRmw loc s (lsr_toNat _ _ _ _) rfl

theorem opRol_eq : opRol loc s = opRmw .rol loc s :=
  eq_opRmw loc s (rol_toNat _ _ _ _) (msbOf_eq_testBit_top _ _)

theorem opRor_eq : opRor loc s = opRmw .ror loc s :=
  eq_opRmw loc s (ror_toNat _ _ _ (locRead_lt_size loc)) rfl

end OperatorEquations

/-- R191, R364: an instruction of one of the six, in any of its modes, is that operator in its location. -/
theorem exec_rmw {i : Instr} (h : i.mnemonic ∈ rmwOps) (s : State) :
    ∃ f, modeLoc i.mnemonic i.operand s = some f ∧ f.len = i.length ∧
      exec i s = chargeCycles (completeWrite i.opcode f.adj (extraRmw s)
        (opRmw i.mnemonic f.operand (s.advance f.len))) := by
  simp only [rmwOps, List.mem_cons, List.not_mem_nil, or_false] at h
  rcases h with h | h | h | h | h | h <;> rw [h]
  · simpa only [incWith, opInc_eq] using exec_inc h s
  · simpa only [decWith, opDec_eq] using exec_dec h s
  · simpa only [aslWith, opAsl_eq] using exec_asl h s
  · simpa only [lsrWith, opLsr_eq] using exec_lsr h s
  · simpa only [rolWith, opRol_eq] using exec_rol h s
  · simpa only [rorWith, opRor_eq] using exec_ror h s

/-! ### The accumulator forms -/

/-- R125, R191: the adjustment of `acc` cancels the two cycles of a 16-bit read-modify-write. -/
theorem modeAcc_adj_add_extraRmw (s : State) : (modeAcc s).adj + extraRmw s = 0 := by
  unfold modeAcc extraRmw widthPen
  cases s.flagM <;> rfl

/-- The state that an accumulator form leaves with the result `r` and the carry `k` (R125, R364). -/
def State.withRmwAcc (s : State) (r : Word) (k : Bool) : State :=
  ((((s.advance 1).setA s.wM r).setFlag maskC k).setNZ s.wM r).addCycles 2

/-- R11, R33: c, n and z are written; v, m, x, d and i stay. -/
theorem withRmwAcc_keeps (s : State) (r : Word) (k : Bool) : Keeps 0x7C s (s.withRmwAcc r k) := by
  unfold Keeps State.withRmwAcc
  rw [State.addCycles_p, setNZ_and_of_disjoint _ _ _ _ (by decide) (by decide), State.setFlag_p,
    putFlag_and_of_disjoint _ _ _ _ (by decide)]
  rfl

@[simp] theorem flagC_withRmwAcc (s : State) (r : Word) (k : Bool) : (s.withRmwAcc r k).flagC = k :=
  (flagC_setNZ (((s.advance 1).setA s.wM r).setFlag maskC k) s.wM r).trans (by simp)

/-- R36: a result that fits the width is in the accumulator. -/
theorem withRmwAcc_putAcc {s : State} {r : Word} (hr : r.toNat < size s.flagM) (k : Bool) :
    (s.withRmwAcc r k).c.toNat = putAcc s r.toNat := by
  have hc := setA_putAcc s r
  rw [Nat.mod_eq_of_lt hr] at hc
  exact hc

/-- R11: n and z are those of a result that fits the width. -/
theorem withRmwAcc_setsNZ {s : State} {r : Word} (hr : r.toNat < size s.flagM) (k : Bool) :
    SetsNZ (s.withRmwAcc r k) s.flagM r.toNat := by
  have hnz := setNZ_sets (((s.advance 1).setA s.wM r).setFlag maskC k) s.flagM r
  rw [Nat.mod_eq_of_lt hr] at hnz
  exact hnz

/-- R125, R364: an accumulator form completes in 2 cycles with the value and the carry of its operator. -/
theorem exec_rmwAcc {i : Instr} (h : i.mnemonic ∈ rmwOps) (hacc : i.operand = .acc) (hcyc : baseCycles i.opcode = 2)
    (s : State) :
    ∃ r, r.toNat = rmwValue i.mnemonic s.flagM (acc s) (acc s) s.flagC.toNat ∧
      exec i s = .next (s.withRmwAcc r (rmwCarry i.mnemonic s (acc s))) := by
  obtain ⟨f, hf, -, hx⟩ := exec_rmw h s
  rw [hacc] at hf
  cases hf
  have hcount : (baseCycles i.opcode : Int) + (modeAcc s).adj + extraRmw s = 2 := by
    rw [add_assoc, modeAcc_adj_add_extraRmw, hcyc]
    rfl
  have hlt := rmwValue_lt h (acc_lt s) (acc s) s.flagC
  have hsize : size s.flagM ≤ 2 ^ 16 := by cases s.flagM <;> decide
  refine ⟨_, (BitVec.toNat_ofNat _ _).trans (Nat.mod_eq_of_lt (hlt.trans_le hsize)), ?_⟩
  rw [hx, State.withRmwAcc, ← hcount]
  rfl

/-- Settles O28: each row is an accumulator form of one of the six, of base count 2. -/
theorem readModifyWriteOfAccumulator : Obligations.ReadModifyWriteOfAccumulator := by
  unfold Obligations.ReadModifyWriteOfAccumulator
  intro s row hrow
  have hform : encode row.2 = [row.1] ∧ row.2.mnemonic ∈ rmwOps ∧ row.2.operand = .acc ∧
      baseCycles row.2.opcode = 2 := by
    revert row
    decide
  obtain ⟨henc, hop, hacc, hcyc⟩ := hform
  obtain ⟨r, hr, hx⟩ := exec_rmwAcc hop hacc hcyc s
  have hlt : r.toNat < size s.flagM := hr ▸ rmwValue_lt hop (acc_lt s) (acc s) s.flagC
  refine ⟨henc, _, hx, rfl, withRmwAcc_keeps s r _, ?_⟩
  rw [← hr]
  exact ⟨withRmwAcc_putAcc hlt _, withRmwAcc_setsNZ hlt _, flagC_withRmwAcc s r _⟩

end Sys2Proof.Machine

/-! PROOFS. Decimal ADC and SBC on valid BCD operands (R162, R164), the read-modify-writes of memory (R165, R166, R185 to R188,
R191), and the steps of the index registers (R167 to R170). -/

namespace Sys2Proof.Machine

open Sys2Proof.Claims

/-! ### The decimal numbers of valid digits -/

theorem validBcd_succ_iff {n a : Nat} : validBcd (n + 1) a = true ↔ a % 16 ≤ 9 ∧ validBcd n (a / 16) = true := by
  rw [validBcd, Bool.and_eq_true, decide_eq_true_eq]

section Cons

variable {n d rest : Nat} (hd : d ≤ 9)

include hd

theorem cons_digit : (d + 16 * rest) % 16 = d ∧ (d + 16 * rest) / 16 = rest := by omega

theorem validBcd_cons (h : validBcd n rest = true) : validBcd (n + 1) (d + 16 * rest) = true := by
  obtain ⟨hdigit, hrest⟩ := cons_digit (rest := rest) hd
  rw [validBcd_succ_iff, hdigit, hrest]
  exact ⟨hd, h⟩

theorem decimal_cons : decimal (n + 1) (d + 16 * rest) = d + 10 * decimal n rest := by
  obtain ⟨hdigit, hrest⟩ := cons_digit (rest := rest) hd
  rw [decimal, hdigit, hrest]

end Cons

theorem decimal_lt {n a : Nat} (ha : validBcd n a = true) : decimal n a < 10 ^ n := by
  induction n generalizing a with
  | zero => exact Nat.one_pos
  | succ n ih =>
    obtain ⟨hdigit, hrest⟩ := validBcd_succ_iff.mp ha
    have := ih hrest
    rw [decimal, Nat.pow_succ]
    omega

/-! ### The digit-serial schemes on valid digits -/

/-- R162: a digit of the sum of two valid digits and a carry is valid; it and the carry out write that sum. -/
theorem addRule_decimal {sum : Nat} (h : sum ≤ 19) :
    (addRule sum).1 % 16 ≤ 9 ∧ (addRule sum).1 % 16 + 10 * (addRule sum).2.toNat = sum := by
  revert sum
  decide

/-- R164: the ones complement of a digit lies 6 above its nines complement, and the rule takes these 6 off again. -/
theorem subRule_eq_addRule {sum : Nat} (h : sum ≤ 19) :
    (subRule (sum + 6)).1 % 16 = (addRule sum).1 % 16 ∧ (subRule (sum + 6)).2 = (addRule sum).2 := by
  revert sum
  decide

/-- A total in its two parts, below the modulus `N` and the carry out of it. -/
theorem eq_mod_and_carry {N r total : Nat} {k : Bool} (hr : r < N) (h : r + N * k.toNat = total) :
    r = total % N ∧ k = decide (N ≤ total) := by
  subst h
  constructor
  · rw [Nat.add_mul_mod_self_left, Nat.mod_eq_of_lt hr]
  · cases k <;> simp [hr]

section Step

variable (n : Nat) {a b sum : Nat} {c : Bool}

theorem decAdd_succ (h : sum = a % 16 + b % 16 + c.toNat) :
    (decAdd (n + 1) a b c).1 = (addRule sum).1 % 16 + 16 * (decAdd n (a / 16) (b / 16) (addRule sum).2).1 ∧
      (decAdd (n + 1) a b c).2.1 = (decAdd n (a / 16) (b / 16) (addRule sum).2).2.1 := by
  subst h
  exact ⟨rfl, rfl⟩

theorem decSub_succ (h : sum = a % 16 + (15 - b % 16) + c.toNat) :
    (decSub (n + 1) a b c).1 = (subRule sum).1 % 16 + 16 * (decSub n (a / 16) (b / 16) (subRule sum).2).1 ∧
      (decSub (n + 1) a b c).2.1 = (decSub n (a / 16) (b / 16) (subRule sum).2).2.1 := by
  subst h
  exact ⟨rfl, rfl⟩

end Step

section ValidDigits

variable {n a b : Nat} (c : Bool) (ha : validBcd n a = true) (hb : validBcd n b = true)

include ha hb

/-- R162: the sum of valid digits has valid digits, and they and the carry out write the decimal sum. -/
theorem decAdd_decimal :
    validBcd n (decAdd n a b c).1 = true ∧
      decimal n (decAdd n a b c).1 + 10 ^ n * (decAdd n a b c).2.1.toNat = decimal n a + decimal n b + c.toNat := by
  induction n generalizing a b c with
  | zero => simp [decAdd, decimal, validBcd]
  | succ n ih =>
    obtain ⟨hda, hra⟩ := validBcd_succ_iff.mp ha
    obtain ⟨hdb, hrb⟩ := validBcd_succ_iff.mp hb
    have hc := c.toNat_le
    generalize hsum : a % 16 + b % 16 + c.toNat = sum
    obtain ⟨hdigit, htotal⟩ := addRule_decimal (sum := sum) (by omega)
    obtain ⟨hvalid, hrest⟩ := ih (addRule sum).2 hra hrb
    obtain ⟨hvalue, hcarry⟩ := decAdd_succ n hsum.symm
    rw [hvalue, hcarry]
    refine ⟨validBcd_cons hdigit hvalid, ?_⟩
    rw [decimal_cons hdigit, decimal, decimal, Nat.pow_succ, Nat.mul_right_comm]
    omega

/-- R164: the difference of valid digits has valid digits; with the carry out, which counts as 1 when there is no borrow, they
write the decimal difference. -/
theorem decSub_decimal :
    validBcd n (decSub n a b c).1 = true ∧
      decimal n (decSub n a b c).1 + 10 ^ n * (decSub n a b c).2.1.toNat + decimal n b + 1 =
        decimal n a + 10 ^ n + c.toNat := by
  induction n generalizing a b c with
  | zero => simp [decSub, decimal, validBcd]; omega
  | succ n ih =>
    obtain ⟨hda, hra⟩ := validBcd_succ_iff.mp ha
    obtain ⟨hdb, hrb⟩ := validBcd_succ_iff.mp hb
    have hc := c.toNat_le
    generalize hsum : a % 16 + (9 - b % 16) + c.toNat = sum
    obtain ⟨hdigit, htotal⟩ := addRule_decimal (sum := sum) (by omega)
    obtain ⟨hsame, hout⟩ := subRule_eq_addRule (sum := sum) (by omega)
    obtain ⟨hvalid, hrest⟩ := ih (addRule sum).2 hra hrb
    obtain ⟨hvalue, hcarry⟩ := decSub_succ n (a := a) (b := b) (sum := sum + 6) (c := c) (by omega)
    rw [hvalue, hcarry, hsame, hout]
    refine ⟨validBcd_cons hdigit hvalid, ?_⟩
    rw [decimal_cons hdigit, decimal, decimal, Nat.pow_succ, Nat.mul_right_comm]
    omega

/-- R162: the decimal sum modulo 10 to the number of digits, and its carry. -/
theorem decAdd_eq_mod :
    decimal n (decAdd n a b c).1 = (decimal n a + decimal n b + c.toNat) % 10 ^ n ∧
      (decAdd n a b c).2.1 = decide (10 ^ n ≤ decimal n a + decimal n b + c.toNat) := by
  obtain ⟨hvalid, htotal⟩ := decAdd_decimal c ha hb
  exact eq_mod_and_carry (decimal_lt hvalid) htotal

/-- R164: the decimal difference modulo 10 to the number of digits; the carry says that there is no borrow. -/
theorem decSub_eq_mod :
    decimal n (decSub n a b c).1 = (decimal n a + 10 ^ n - decimal n b - (1 - c.toNat)) % 10 ^ n ∧
      (decSub n a b c).2.1 = decide (decimal n b + (1 - c.toNat) ≤ decimal n a) := by
  have hc := c.toNat_le
  have hlt := decimal_lt hb
  obtain ⟨hvalid, htotal⟩ := decSub_decimal c ha hb
  have hparts : decimal n (decSub n a b c).1 + 10 ^ n * (decSub n a b c).2.1.toNat =
      decimal n a + 10 ^ n - decimal n b - (1 - c.toNat) := by omega
  obtain ⟨hvalue, hcarry⟩ := eq_mod_and_carry (decimal_lt hvalid) hparts
  refine ⟨hvalue, hcarry.trans (decide_eq_decide.mpr ?_)⟩
  omega

end ValidDigits

/-! ### Decimal ADC and SBC -/

/-- R36: a result that fits the width is what the accumulator then reads as. -/
theorem LeavesResult.acc_mod {i : Instr} {s t : State} {r : Nat} {carry overflow : Bool}
    (h : LeavesResult i s t r carry overflow) (hr : r < size s.flagM) : t.c.toNat % size s.flagM = r := by
  rw [h.acc]
  unfold putAcc
  cases hm : s.flagM <;> simp only [hm, size, Bool.false_eq_true, if_false, if_true] at hr ⊢ <;> omega

/-- Settles O24: the answer is that of the digit-serial scheme, which on valid digits is decimal arithmetic. -/
theorem decimalResultOfValidDigits : Obligations.DecimalResultOfValidDigits := by
  unfold Obligations.DecimalResultOfValidDigits
  intro i s f hi hd hf ha hb
  rcases List.mem_pair.mp hi with h | h
  · obtain ⟨f', t, hf', hx, hleaves⟩ := exec_adc_leaves h s
    obtain rfl := Option.some.inj (hf.symm.trans hf')
    have hanswer := adcSum_answers_decimal f.operand hd
    have hresult := hleaves hanswer
    refine ⟨t, hx, ?_⟩
    rw [hresult.acc_mod hanswer.fits, hresult.carry, if_pos h]
    exact ⟨(decAdd_decimal s.flagC ha hb).1, decAdd_eq_mod s.flagC ha hb⟩
  · obtain ⟨f', t, hf', hx, hleaves⟩ := exec_sbc_leaves h s
    obtain rfl := Option.some.inj (hf.symm.trans hf')
    have hanswer := sbcDiff_answers_decimal f.operand hd
    have hresult := hleaves hanswer
    have hne : i.mnemonic ≠ .adc := by rw [h]; decide
    refine ⟨t, hx, ?_⟩
    rw [hresult.acc_mod hanswer.fits, hresult.carry, if_neg hne]
    exact ⟨(decSub_decimal s.flagC ha hb).1, decSub_eq_mod s.flagC ha hb⟩

/-! ### Read-modify-writes of memory -/

/-- R191: what executing `i` in `s` leaves when it writes a result to the memory of a location, with its flags, and nothing
else. -/
structure LeavesRmw (i : Instr) (s t : State) (loc : Loc) (r : Nat) (carry : Bool) : Prop where
  frame : t = { passed i s with mem := t.mem, p := t.p }
  keeps : Keeps 0x7C s t
  stores : OnlyStores (bytesOf loc s.flagM) s t
  value : value t loc s.flagM = r
  nz : SetsNZ t s.flagM r
  carry : t.flagC = carry

/-- R100: no read-modify-write has an immediate form. -/
theorem isImmediate_of_rmwOps {i : Instr} (h : i.mnemonic ∈ rmwOps) : isImmediate i.operand = false := by
  replace h := decide_eq_true h
  cases i <;> first
    | rfl
    | cases h

/-- R125: the location of an operand that is neither an immediate nor the accumulator is memory, of which a write changes the
bytes of the location and no register. -/
theorem locWrite_memory {s : State} {loc : Loc} (himm : loc.isImm = false) (hacc : loc ≠ .regA) (w : Width) (v : Word) :
    ∃ m, s.locWrite loc w v = .ok { s with mem := m } := by
  obtain ⟨t, ht⟩ := locWrite_isOk s w v himm
  obtain ⟨hframe, hc, -⟩ := locWrite_frame ht
  refine ⟨t.mem, ht.trans (congrArg Except.ok ?_)⟩
  rw [hframe, hc hacc]

/-- R191, R364: the cycles of a read-modify-write of memory. -/
theorem cycles_eq_extraRmw {i : Instr} (h : i.mnemonic ∈ rmwOps) {s : State} {f : Formed Loc}
    (hf : modeLoc i.mnemonic i.operand s = some f) : cycles i s = baseCycles i.opcode + f.adj + extraRmw s := by
  have hpen : i.mnemonic ≠ .pei ∧ operatorPen i.mnemonic = .m2 := by
    revert h
    cases i.mnemonic <;> decide
  rw [cycles_eq i s hf hpen.1, isImm_of_modeLoc hf, isImmediate_of_rmwOps h, hpen.2]
  unfold charge extraRmw widthPen
  cases s.flagM <;> rfl

/-- R41: the value of a location is that of memory and of `C`. -/
theorem value_congr {s t : State} (hc : t.c = s.c) (hm : t.mem = s.mem) (loc : Loc) (f : Bool) :
    value t loc f = value s loc f := by
  cases loc <;> simp only [value, State.readMem, hc, hm]

/-- The state that an instruction of `len` bytes and `n` cycles leaves when it puts memory to `m` and writes the flags of the
result `r` and the carry `k` (R11, R191). -/
def State.withRmwMem (s : State) (len : Nat) (n : Int) (m : Memory) (r : Word) (k : Bool) : State :=
  { s.advance len with mem := m, p := ((s.setFlag maskC k).setNZ s.wM r).p, cyc := s.cyc + BitVec.ofInt 64 n }

/-- R191, R364: memory, then c, then n and z, then the cycles: the state that `opRmw` and the count leave. -/
theorem withRmwMem_eq (s : State) (len : Nat) (n : Int) (m : Memory) (r : Word) (k : Bool) :
    ((State.setFlag { s.advance len with mem := m } maskC k).setNZ s.wM r).addCycles n = s.withRmwMem len n m r k := by
  cases s
  rfl

/-- R191, R364: when the memory is that of a write of `r` to a location, the location holds `r`. -/
theorem withRmwMem_leaves (i : Instr) {s : State} {loc : Loc} {m : Memory} {r : Word} (hr : r.toNat < size s.flagM) (k : Bool)
    (hm : (s.advance i.length).locWrite loc s.wM r = .ok { s.advance i.length with mem := m }) :
    LeavesRmw i s (s.withRmwMem i.length (cycles i s) m r k) loc r.toNat k := by
  obtain ⟨-, -, hother⟩ := locWrite_frame hm
  refine ⟨rfl, ?_, fun a ha => hother a (bytesOf_eq loc s.flagM ▸ ha), ?_, ?_, ?_⟩
  · exact (setNZ_and_of_disjoint (s.setFlag maskC k) s.wM r 0x7C (by decide) (by decide)).trans
      (putFlag_and_of_disjoint s.p maskC 0x7C k (by decide))
  · calc value (s.withRmwMem i.length (cycles i s) m r k) loc s.flagM
        = value { s.advance i.length with mem := m } loc s.flagM := value_congr rfl rfl loc s.flagM
      _ = (truncTo s.wM r).toNat := by rw [← value_eq]; exact congrArg BitVec.toNat (locRead_locWrite hm)
      _ = r.toNat % size s.flagM := by rw [truncTo_toNat, size_eq]; rfl
      _ = r.toNat := Nat.mod_eq_of_lt hr
  · have hnz := setNZ_sets (s.setFlag maskC k) s.flagM r
    rw [Nat.mod_eq_of_lt hr] at hnz
    exact SetsNZ.congr hnz rfl
  · exact (flagC_setNZ (s.setFlag maskC k) s.wM r).trans (flagC_setC s k)

/-- R165, R166, R185 to R188: the result of such an operator as a word. -/
theorem toNat_rmwValue {op : Mnemonic} (hop : op ∈ rmwOps) {f : Bool} {v : Nat} (hv : v < size f) (a : Nat) (c : Bool) :
    (BitVec.ofNat 16 (rmwValue op f v a c.toNat)).toNat = rmwValue op f v a c.toNat := by
  have hsize : size f ≤ 2 ^ 16 := by cases f <;> decide
  exact (BitVec.toNat_ofNat _ _).trans (Nat.mod_eq_of_lt ((rmwValue_lt hop hv a c).trans_le hsize))

/-- R191: a read-modify-write whose operand is not the accumulator writes the value of its operator to its location. -/
theorem exec_rmw_leaves {i : Instr} (h : i.mnemonic ∈ rmwOps) (hacc : i.operand ≠ .acc) (s : State) :
    ∃ f t, modeLoc i.mnemonic i.operand s = some f ∧ exec i s = .next t ∧
      LeavesRmw i s t f.operand (rmwValue i.mnemonic s.flagM (value s f.operand s.flagM) (acc s) s.flagC.toNat)
        (rmwCarry i.mnemonic s (value s f.operand s.flagM)) := by
  obtain ⟨f, hf, hlen, hx⟩ := exec_rmw h s
  have hreg : f.operand ≠ .regA := fun hr => hacc ((operand_regA_iff (P := .std) (by rw [locOf, hf])).mp hr)
  have himm : f.operand.isImm = false := (isImm_of_modeLoc hf).trans (isImmediate_of_rmwOps h)
  have hv := value_lt s f.operand s.flagM
  have hr := toNat_rmwValue h hv (acc s) s.flagC
  obtain ⟨m, hm⟩ := locWrite_memory (s := s.advance i.length) himm hreg s.wM
    (BitVec.ofNat 16 (rmwValue i.mnemonic s.flagM (value s f.operand s.flagM) (acc s) s.flagC.toNat))
  have hleaves := withRmwMem_leaves i (hr.trans_lt (rmwValue_lt h hv (acc s) s.flagC))
    (rmwCarry i.mnemonic s (value s f.operand s.flagM)) hm
  rw [hr] at hleaves
  refine ⟨f, _, hf, ?_, hleaves⟩
  have hop : opRmw i.mnemonic f.operand (s.advance i.length) = .ok _ := congrArg (Except.map _) hm
  rw [hx, hlen, hop, completeWrite_ok, cycles_eq_extraRmw h hf]
  exact congrArg Host.Outcome.next (withRmwMem_eq s i.length _ m _ _)

/-- R33: a status byte with c as it was keeps the bit of c too. -/
theorem keeps_of_flagC {s t : State} (h : Keeps 0x7C s t) (hc : t.flagC = s.flagC) : Keeps 0x7D s t := by
  have hbits : ∀ j < 8, (0x7D : Byte).getLsbD j = true → j = 0 ∨ (0x7C : Byte).getLsbD j = true := by decide
  refine keeps_iff.mpr fun j hj => ?_
  rcases hbits j (BitVec.lt_of_getLsbD hj) hj with rfl | hj
  · exact hc
  · exact keeps_iff.mp h j hj

/-- R165, R166: INC and DEC of memory. -/
theorem mnemonic_of_incDecMemory {i : Instr} (h : i.opcode ∈ [(0xE6 : Byte), 0xEE, 0xF6, 0xFE, 0xC6, 0xCE, 0xD6, 0xDE]) :
    i.mnemonic ∈ [.inc, .dec] ∧ i.operand ≠ .acc := by
  replace h := decide_eq_true h
  cases i <;> first
    | exact ⟨of_decide_eq_true rfl, Operand.noConfusion⟩
    | cases h

/-- Settles O25: a read-modify-write of memory that leaves c as it was. -/
theorem incDecMemory : Obligations.IncDecMemory := by
  unfold Obligations.IncDecMemory
  intro i s hop
  obtain ⟨hmn, hacc⟩ := mnemonic_of_incDecMemory hop
  obtain ⟨f, t, hf, hx, hleaves⟩ := exec_rmw_leaves (List.mem_append_left [.asl, .lsr, .rol, .ror] hmn) hacc s
  have hcarry : t.flagC = s.flagC := hleaves.carry.trans (if_pos hmn)
  exact ⟨f, t, hf, hx, hleaves.frame, keeps_of_flagC hleaves.keeps hcarry, hleaves.stores, hleaves.value, hleaves.nz⟩

/-! ### The steps of the index registers -/

/-- R35: what a step of an index register that holds `v` puts into it. -/
theorem indexStep_toNat (f : Bool) (v dir : Word) {k : Nat} (hk : dir.toNat % size f = k % size f) :
    (truncTo (.ofFlag f) (truncTo (.ofFlag f) (truncTo (.ofFlag f) v + dir))).toNat = (v.toNat + k) % size f := by
  have hpow : size f ∣ 2 ^ 16 := by cases f <;> decide
  simp only [truncTo_toNat, ← size_eq, BitVec.toNat_add]
  rw [Nat.mod_mod, Nat.mod_mod_of_dvd _ hpow, Nat.mod_add_mod, Nat.add_mod, hk, ← Nat.add_mod]

/-- R11, R35: n and z, written from a value, are those of the register it was put into at the same width. -/
theorem setNZ_setsTruncated (s : State) (f : Bool) (r : Word) :
    SetsNZ (s.setNZ (.ofFlag f) r) f (truncTo (.ofFlag f) r).toNat := by
  rw [truncTo_toNat, ← size_eq]
  exact setNZ_sets s f r

/-- R11: `SetNZ` keeps every flag but n and z. -/
theorem setNZ_keeps (s : State) (w : Width) (r : Word) : Keeps 0x7D s (s.setNZ w r) :=
  setNZ_and_of_disjoint s w r 0x7D (by decide) (by decide)

section IndexSteps

variable (s : State) (dir : Word)

/-- R167, R169, R364: INX or DEX, item by item. -/
theorem stepX_eq :
    (stepX dir (s.advance 1)).addCycles 2 =
      { s with
        x := truncTo s.wX (truncTo s.wX (s.readX s.wX + dir))
        p := (s.setNZ s.wX (truncTo s.wX (s.readX s.wX + dir))).p
        pc := s.pc + 1
        cyc := s.cyc + 2 } := by
  cases s
  rfl

/-- R168, R170, R364: INY or DEY, item by item. -/
theorem stepY_eq :
    (stepY dir (s.advance 1)).addCycles 2 =
      { s with
        y := truncTo s.wX (truncTo s.wX (s.readY s.wX + dir))
        p := (s.setNZ s.wX (truncTo s.wX (s.readY s.wX + dir))).p
        pc := s.pc + 1
        cyc := s.cyc + 2 } := by
  cases s
  rfl

variable {s dir} {t : State} {k : Nat} (hk : dir.toNat % size s.flagX = k % size s.flagX)

include hk

/-- R167, R169: what INX or DEX leaves. -/
theorem stepX_leaves (ht : t = (stepX dir (s.advance 1)).addCycles 2) :
    t = { s with x := t.x, p := t.p, pc := s.pc + 1, cyc := s.cyc + 2 } ∧ Keeps 0x7D s t ∧
      t.x.toNat = (s.x.toNat + k) % size s.flagX ∧ SetsNZ t s.flagX t.x.toNat := by
  rw [stepX_eq] at ht
  subst ht
  exact ⟨rfl, setNZ_keeps s _ _, indexStep_toNat s.flagX s.x dir hk, SetsNZ.congr (setNZ_setsTruncated s s.flagX _) rfl⟩

/-- R168, R170: what INY or DEY leaves. -/
theorem stepY_leaves (ht : t = (stepY dir (s.advance 1)).addCycles 2) :
    t = { s with y := t.y, p := t.p, pc := s.pc + 1, cyc := s.cyc + 2 } ∧ Keeps 0x7D s t ∧
      t.y.toNat = (s.y.toNat + k) % size s.flagX ∧ SetsNZ t s.flagX t.y.toNat := by
  rw [stepY_eq] at ht
  subst ht
  exact ⟨rfl, setNZ_keeps s _ _, indexStep_toNat s.flagX s.y dir hk, SetsNZ.congr (setNZ_setsTruncated s s.flagX _) rfl⟩

end IndexSteps

/-- R169, R170: stepping down is adding the greatest value of the width. -/
theorem negOne_mod_size (f : Bool) : (-1 : Word).toNat % size f = (size f - 1) % size f := by cases f <;> rfl

/-- Settles O29: each row is a step of its register, up by 1 or down. -/
theorem indexSteps : Obligations.IndexSteps := by
  unfold Obligations.IndexSteps
  refine fun s => ⟨fun row hrow => ?_, fun row hrow => ?_⟩
  · rcases List.mem_pair.mp hrow with rfl | rfl
    · exact ⟨rfl, _, rfl, stepX_leaves rfl rfl⟩
    · exact ⟨rfl, _, rfl, stepX_leaves (negOne_mod_size s.flagX) rfl⟩
  · rcases List.mem_pair.mp hrow with rfl | rfl
    · exact ⟨rfl, _, rfl, stepY_leaves rfl rfl⟩
    · exact ⟨rfl, _, rfl, stepY_leaves (negOne_mod_size s.flagX) rfl⟩

end Sys2Proof.Machine

/-! PROOFS. The shifts and rotates of memory (R185 to R188), TSB and TRB (R189, R190), AND, ORA and EOR (R181 to R183), and
BIT (R184). -/

namespace Sys2Proof.Machine

open Sys2Proof.Claims

/-! ### The shifts and rotates of memory -/

/-- R185 to R188: the shifts and rotates of memory. -/
theorem mnemonic_of_shiftsOfMemory {i : Instr} (h : i.opcode ∈ [(0x06 : Byte), 0x0E, 0x16, 0x1E, 0x46, 0x4E, 0x56, 0x5E,
    0x26, 0x2E, 0x36, 0x3E, 0x66, 0x6E, 0x76, 0x7E]) :
    i.mnemonic ∈ [.asl, .lsr, .rol, .ror] ∧ i.operand ≠ .acc := by
  replace h := decide_eq_true h
  cases i <;> first
    | exact ⟨of_decide_eq_true rfl, Operand.noConfusion⟩
    | cases h

/-- R185 to R188: the carry of a shift is the bit shifted out. -/
theorem rmwCarry_eq_shiftedOut {op : Mnemonic} (h : op ∈ [.asl, .lsr, .rol, .ror]) (s : State) (v : Nat) :
    rmwCarry op s v = shiftedOut op s.flagM v := by
  refine if_neg ?_
  revert h
  cases op <;> decide

/-- Settles O26: a read-modify-write of memory whose carry is the bit shifted out. -/
theorem shiftsOfMemory : Obligations.ShiftsOfMemory := by
  unfold Obligations.ShiftsOfMemory
  intro i s hop
  obtain ⟨hmn, hacc⟩ := mnemonic_of_shiftsOfMemory hop
  obtain ⟨f, t, hf, hx, hleaves⟩ := exec_rmw_leaves (List.mem_append_right [.inc, .dec] hmn) hacc s
  exact ⟨f, t, hf, hx, hleaves.frame, hleaves.keeps, hleaves.stores, hleaves.value, hleaves.nz,
    hleaves.carry.trans (rmwCarry_eq_shiftedOut hmn s _)⟩

/-! ### The accumulator against an operand -/

section Bits

variable {s : State} (loc : Loc)

/-- R181, R184: the bits that the accumulator and a location have in common. -/
theorem acc_and_value :
    (s.readA s.wM &&& s.locRead loc s.wM).toNat = acc s &&& value s loc s.flagM := by
  rw [BitVec.toNat_and, acc_eq]
  exact congrArg _ (value_eq s loc s.flagM)

/-- R182: the bits that the accumulator or a location has. -/
theorem acc_or_value :
    (s.readA s.wM ||| s.locRead loc s.wM).toNat = acc s ||| value s loc s.flagM := by
  rw [BitVec.toNat_or, acc_eq]
  exact congrArg _ (value_eq s loc s.flagM)

/-- R183: the bits in which the accumulator and a location differ. -/
theorem acc_xor_value :
    (s.readA s.wM ^^^ s.locRead loc s.wM).toNat = acc s ^^^ value s loc s.flagM := by
  rw [BitVec.toNat_xor, acc_eq]
  exact congrArg _ (value_eq s loc s.flagM)

/-- R190: the bits of a location that the accumulator does not have. -/
theorem value_and_complement_acc :
    (s.locRead loc s.wM &&& complement s.wM (s.readA s.wM)).toNat =
      value s loc s.flagM &&& (size s.flagM - 1 - acc s) := by
  have hacc : (s.readA s.wM).toNat < 2 ^ s.wM.bits := locRead_lt s .regA s.wM
  rw [BitVec.toNat_and, complement_toNat _ hacc, acc_eq, size_eq]
  exact congrArg (· &&& _) (value_eq s loc s.flagM)

/-- R184, R189, R190: z of the test of a location against the accumulator. -/
theorem decide_acc_and_value :
    decide (s.readA s.wM &&& s.locRead loc s.wM = 0) = decide (acc s &&& value s loc s.flagM = 0) := by
  rw [decide_eq_decide, ← acc_and_value, ← BitVec.toNat_inj]
  rfl

end Bits

/-! ### TSB and TRB -/

/-- R189, R190: the operands of TSB and TRB are memory. -/
theorem mnemonic_of_testAndSetBits {i : Instr} (h : i.opcode ∈ [(0x04 : Byte), 0x0C, 0x14, 0x1C]) :
    i.mnemonic ∈ [.tsb, .trb] ∧ isImmediate i.operand = false ∧ i.operand ≠ .acc := by
  replace h := decide_eq_true h
  cases i <;> first
    | exact ⟨of_decide_eq_true rfl, rfl, Operand.noConfusion⟩
    | cases h

/-- R10: a number below the size of a width, as a word. -/
theorem toNat_ofNat_of_lt_size {f : Bool} {r : Nat} (h : r < size f) : (BitVec.ofNat 16 r).toNat = r := by
  have hsize : size f ≤ 2 ^ 16 := by cases f <;> decide
  exact (BitVec.toNat_ofNat _ _).trans (Nat.mod_eq_of_lt (h.trans_le hsize))

/-- R189, R190: the value that TSB or TRB writes fits the width. -/
theorem testAndSet_lt {op : Mnemonic} (hop : op ∈ [.tsb, .trb]) (s : State) (loc : Loc) (c : Nat) :
    rmwValue op s.flagM (value s loc s.flagM) (acc s) c < size s.flagM := by
  have hv := value_lt s loc s.flagM
  rcases List.mem_pair.mp hop with rfl | rfl
  · have ha := acc_lt s
    rw [size_eq] at hv ha ⊢
    exact Nat.or_lt_two_pow hv ha
  · exact Nat.and_le_left.trans_lt hv

/-- R189, R190: TSB and TRB in the words of the statements: the value written to the location, and z of the test before it. -/
def opTestAndSet (op : Mnemonic) (loc : Loc) (s : State) : Except Refusal State :=
  let v := value s loc s.flagM
  let r := BitVec.ofNat 16 (rmwValue op s.flagM v (acc s) s.flagC.toNat)
  (s.locWrite loc s.wM r).map fun t => t.setFlag maskZ (decide (acc s &&& v = 0))

section OperatorEquations

variable (loc : Loc) (s : State)

/-- An operator is `opTestAndSet op` when it tests the location and writes the value of `op`. -/
theorem eq_opTestAndSet {op : Mnemonic} {r : Word}
    (hr : r.toNat = rmwValue op s.flagM (value s loc s.flagM) (acc s) s.flagC.toNat) :
    ((s.locWrite loc s.wM r).map fun t => t.setFlag maskZ (decide (s.readA s.wM &&& s.locRead loc s.wM = 0))) =
      opTestAndSet op loc s := by
  rw [opTestAndSet, ← hr, decide_acc_and_value, BitVec.ofNat_toNat, BitVec.setWidth_eq]

theorem opTsb_eq : opTsb loc s = opTestAndSet .tsb loc s := by
  refine eq_opTestAndSet loc s ?_
  rw [BitVec.or_comm, acc_or_value, Nat.or_comm]
  rfl

theorem opTrb_eq : opTrb loc s = opTestAndSet .trb loc s :=
  eq_opTestAndSet loc s (value_and_complement_acc loc)

end OperatorEquations

/-- R191, R364: TSB or TRB, in any of its modes, is that operator in its location. -/
theorem exec_testAndSet {i : Instr} (h : i.mnemonic ∈ [.tsb, .trb]) (s : State) :
    ∃ f, modeLoc i.mnemonic i.operand s = some f ∧ f.len = i.length ∧
      exec i s = chargeCycles (completeWrite i.opcode f.adj (extraRmw s)
        (opTestAndSet i.mnemonic f.operand (s.advance f.len))) := by
  rcases List.mem_pair.mp h with h | h <;> rw [h]
  · simpa only [tsbWith, opTsb_eq] using exec_tsb h s
  · simpa only [trbWith, opTrb_eq] using exec_trb h s

/-- R191, R364: the cycles of an operator of class `m2` whose operand is no immediate. -/
theorem cycles_eq_of_operatorPen_m2 {i : Instr} (hpen : operatorPen i.mnemonic = .m2)
    (himm : isImmediate i.operand = false) {s : State} {f : Formed Loc}
    (hf : modeLoc i.mnemonic i.operand s = some f) : cycles i s = baseCycles i.opcode + f.adj + extraRmw s := by
  have hpei : i.mnemonic ≠ .pei := fun h => by rw [h] at hpen; cases hpen
  rw [cycles_eq i s hf hpei, isImm_of_modeLoc hf, himm, hpen]
  unfold charge extraRmw widthPen
  cases s.flagM <;> rfl

/-- R30: a write of z keeps every other flag. -/
theorem setZ_keeps (s : State) (b : Bool) : Keeps 0xFD s (s.setFlag maskZ b) :=
  putFlag_and_of_disjoint s.p maskZ 0xFD b (by decide)

/-- Settles O27: the location is memory, so the write is accepted; z comes from the value before it. -/
theorem testAndSetBits : Obligations.TestAndSetBits := by
  unfold Obligations.TestAndSetBits
  intro i s hop
  obtain ⟨hmn, himm, hacc⟩ := mnemonic_of_testAndSetBits hop
  obtain ⟨f, hf, hlen, hx⟩ := exec_testAndSet hmn s
  have hpen : operatorPen i.mnemonic = .m2 := by
    rcases List.mem_pair.mp hmn with h | h <;> rw [h] <;> rfl
  have hreg : f.operand ≠ .regA := fun h => hacc ((operand_regA_iff (P := .std) (by rw [locOf, hf])).mp h)
  have hlt := testAndSet_lt hmn s f.operand s.flagC.toNat
  have hr := toNat_ofNat_of_lt_size hlt
  obtain ⟨m, hm⟩ := locWrite_memory (s := s.advance i.length) ((isImm_of_modeLoc hf).trans himm) hreg s.wM
    (BitVec.ofNat 16 (rmwValue i.mnemonic s.flagM (value s f.operand s.flagM) (acc s) s.flagC.toNat))
  -- The memory is the one that a read-modify-write of the same result leaves; only the flags differ.
  have hwritten := withRmwMem_leaves i (hr.trans_lt hlt) s.flagC hm
  have hop : opTestAndSet i.mnemonic f.operand (s.advance i.length) = .ok _ := congrArg (Except.map _) hm
  rw [hlen, hop, completeWrite_ok, chargeCycles_complete, ← cycles_eq_of_operatorPen_m2 hpen himm hf] at hx
  refine ⟨f, _, hf, hx, rfl, setZ_keeps s _, hwritten.stores, ?_, flagZ_setZ s _⟩
  exact (value_congr rfl rfl f.operand s.flagM).trans (hwritten.value.trans hr)

/-! ### AND, ORA, EOR -/

/-- R181, R182, R183: the bitwise result of an accumulator `a` and an operand `b`. -/
def logicalValue (op : Mnemonic) (a b : Nat) : Nat :=
  if op = .and then a &&& b else if op = .ora then a ||| b else a ^^^ b

/-- R181, R182, R183: the result fits the width. -/
theorem logicalValue_lt (op : Mnemonic) {f : Bool} {a b : Nat} (ha : a < size f) (hb : b < size f) :
    logicalValue op a b < size f := by
  unfold logicalValue
  rw [size_eq] at ha hb ⊢
  split
  · exact Nat.and_lt_two_pow a hb
  · split
    · exact Nat.or_lt_two_pow ha hb
    · exact Nat.xor_lt_two_pow ha hb

/-- The state that an instruction of `len` bytes and `n` cycles leaves when it writes the result `r` to the accumulator,
with n and z (R11, R36). -/
def State.withAccResult (s : State) (len : Nat) (n : Int) (r : Word) : State :=
  (((s.advance len).setA s.wM r).setNZ s.wM r).addCycles n

/-- R11, R36: a result that fits the width is in the accumulator, with its n and z; nothing else changes. -/
theorem withAccResult_leaves (i : Instr) {s : State} {r : Word} (hr : r.toNat < size s.flagM) {t : State}
    (ht : t = s.withAccResult i.length (cycles i s) r) :
    t = { passed i s with c := t.c, p := t.p } ∧ Keeps 0x7D s t ∧ t.c.toNat = putAcc s r.toNat ∧
      SetsNZ t s.flagM r.toNat := by
  subst ht
  have hacc := setA_putAcc s r
  have hnz := setNZ_sets ((s.advance i.length).setA s.wM r) s.flagM r
  rw [Nat.mod_eq_of_lt hr] at hacc hnz
  exact ⟨rfl, setNZ_keeps ((s.advance i.length).setA s.wM r) s.wM r, hacc, hnz⟩

/-- R181, R182, R183: the operator `op` in the words of the statements: its result to the accumulator, then n and z. -/
def opLogical (op : Mnemonic) (loc : Loc) (s : State) : State :=
  let r := BitVec.ofNat 16 (logicalValue op (acc s) (value s loc s.flagM))
  (s.setA s.wM r).setNZ s.wM r

section LogicalOperators

variable (loc : Loc) (s : State)

/-- An operator is `opLogical op` when its result is that of `op`. -/
theorem eq_opLogical {op : Mnemonic} {r : Word} (hr : r.toNat = logicalValue op (acc s) (value s loc s.flagM)) :
    (s.setA s.wM r).setNZ s.wM r = opLogical op loc s := by
  rw [opLogical, ← hr, BitVec.ofNat_toNat, BitVec.setWidth_eq]

theorem opAnd_eq : opAnd loc s = opLogical .and loc s := eq_opLogical loc s (acc_and_value loc)

theorem opOra_eq : opOra loc s = opLogical .ora loc s := eq_opLogical loc s (acc_or_value loc)

theorem opEor_eq : opEor loc s = opLogical .eor loc s := eq_opLogical loc s (acc_xor_value loc)

end LogicalOperators

/-- R364: AND, ORA or EOR, in any of its modes, is that operator in its location. -/
theorem exec_logical {i : Instr} (h : i.mnemonic ∈ [.and, .ora, .eor]) (s : State) :
    ∃ f, modeLoc i.mnemonic i.operand s = some f ∧ f.len = i.length ∧
      exec i s = chargeCycles (complete i.opcode f.adj (extraRead s.flagM f.operand)
        (opLogical i.mnemonic f.operand (s.advance f.len))) := by
  simp only [List.mem_cons, List.not_mem_nil, or_false] at h
  rcases h with h | h | h <;> rw [h]
  · simpa only [andWith, opAnd_eq] using exec_and h s
  · simpa only [oraWith, opOra_eq] using exec_ora h s
  · simpa only [eorWith, opEor_eq] using exec_eor h s

/-- Settles O30: each of the three writes its bitwise result to the accumulator, with n and z. -/
theorem logicalResult : Obligations.LogicalResult := by
  unfold Obligations.LogicalResult
  intro i s hmn
  have hpen : i.mnemonic ≠ .pei ∧ operatorPen i.mnemonic = .m1 := by
    revert hmn
    cases i.mnemonic <;> decide
  obtain ⟨f, hf, hlen, hx⟩ := exec_logical hmn s
  have hlt := logicalValue_lt i.mnemonic (acc_lt s) (value_lt s f.operand s.flagM)
  have hr := toNat_ofNat_of_lt_size hlt
  have hleaves := withAccResult_leaves i (hr.trans_lt hlt) rfl
  rw [hr] at hleaves
  refine ⟨f, _, hf, ?_, hleaves⟩
  rw [hx, hlen, cycles_eq_extraRead hf hpen.1 hpen.2]
  rfl

/-! ### BIT -/

/-- R184: the opcodes of BIT. -/
theorem mnemonic_eq_bit {i : Instr} (h : i.opcode ∈ [(0x24 : Byte), 0x2C, 0x34, 0x3C, 0x89]) : i.mnemonic = .bit := by
  replace h := decide_eq_true h
  cases i <;> first
    | rfl
    | cases h

/-- R184: the immediate form of BIT is opcode 0x89. -/
theorem isImmediate_bit {i : Instr} (h : i.mnemonic = .bit) : isImmediate i.operand = decide (i.opcode = 0x89) := by
  cases i <;> first
    | rfl
    | cases h

section OpBit

variable (loc : Loc) (s : State)

/-- R184: BIT writes flags only. -/
theorem opBit_frame : opBit loc s = { s with p := (opBit loc s).p } := by
  unfold opBit
  cases loc.isImm <;> rfl

/-- R184: BIT writes n, v and z only. -/
theorem opBit_keeps : Keeps 0x3D s (opBit loc s) := by
  have hz (b : Bool) : Keeps 0x3D s (s.setFlag maskZ b) := putFlag_and_of_disjoint _ _ _ _ (by decide)
  unfold opBit
  cases loc.isImm
  · exact (putFlag_and_of_disjoint _ maskV _ _ (by decide)).trans
      ((putFlag_and_of_disjoint _ maskN _ _ (by decide)).trans (hz _))
  · exact hz _

/-- R184: z says that the accumulator and the operand have no bit in common. -/
theorem flagZ_opBit : (opBit loc s).flagZ = decide (acc s &&& value s loc s.flagM = 0) := by
  rw [← decide_acc_and_value]
  unfold opBit
  cases loc.isImm <;> simp

/-- R184: n is the top bit of an operand in memory. -/
theorem flagN_opBit :
    (opBit loc s).flagN = if loc.isImm then s.flagN else (value s loc s.flagM).testBit (top s.flagM) := by
  rw [← value_eq, ← msbOf_eq_testBit_top]
  unfold opBit
  cases loc.isImm <;> simp [State.wM]

/-- R184: v is the bit below the top bit of an operand in memory. -/
theorem flagV_opBit :
    (opBit loc s).flagV = if loc.isImm then s.flagV else (value s loc s.flagM).testBit (top s.flagM - 1) := by
  rw [← value_eq, top_eq, Nat.sub_sub, BitVec.testBit_toNat]
  unfold opBit
  cases loc.isImm <;> simp [State.wM]

end OpBit

/-- R184, R364: BIT, in any of its modes, is its operator in its location. -/
theorem exec_bit_eq {i : Instr} (h : i.mnemonic = .bit) (s : State) :
    ∃ f, modeLoc i.mnemonic i.operand s = some f ∧
      exec i s = .next ((opBit f.operand (s.advance i.length)).addCycles (cycles i s)) := by
  obtain ⟨f, hf, hlen, hx⟩ := exec_bit h s
  rw [← h] at hf
  refine ⟨f, hf, ?_⟩
  rw [hx, cycles_eq_extraRead hf (by simp [h]) (by rw [h]; rfl), ← hlen]
  rfl

/-- Settles O31: the form is immediate exactly at opcode 0x89. -/
theorem bitTest : Obligations.BitTest := by
  unfold Obligations.BitTest
  intro i s hop
  have hmn := mnemonic_eq_bit hop
  obtain ⟨f, hf, hx⟩ := exec_bit_eq hmn s
  have himm : f.operand.isImm = decide (i.opcode = 0x89) := (isImm_of_modeLoc hf).trans (isImmediate_bit hmn)
  have hvalue : value (s.advance i.length) f.operand s.flagM = value s f.operand s.flagM := value_congr rfl rfl _ _
  have hz := flagZ_opBit f.operand (s.advance i.length)
  have hn := flagN_opBit f.operand (s.advance i.length)
  have hv := flagV_opBit f.operand (s.advance i.length)
  simp only [himm, decide_eq_true_eq] at hn hv
  refine ⟨f, _, hf, hx, ?_, opBit_keeps f.operand (s.advance i.length), ?_⟩
  · rw [opBit_frame]
    rfl
  · rw [← hvalue]
    exact ⟨hz, hn, hv⟩

end Sys2Proof.Machine

/-! PROOFS. The compare operators CMP, CPX, CPY (R200 to R203): one operator, which differs in the register and the width
alone. -/

namespace Sys2Proof.Machine

open Sys2Proof.Claims

/-! ### The flags of a comparison -/

/-- R13, R200: the wrapped difference of two values that fit the width is 0 exactly when they are equal. -/
theorem sub_mod_size_eq_zero_iff {f : Bool} {a b : Nat} (ha : a < size f) (hb : b < size f) :
    (a + size f - b) % size f = 0 ↔ a = b := by
  rcases Nat.lt_or_ge a b with h | h
  · rw [Nat.mod_eq_of_lt (by omega)]
    omega
  · rw [show a + size f - b = a - b + size f by omega, Nat.add_mod_right, Nat.mod_eq_of_lt (by omega)]
    omega

section Compare

variable (f : Bool) (reg : Word) (loc : Loc) (s : State)

/-- R200: a comparison writes the flags only, and where `PC` stands does not matter to them. -/
theorem compare_advance (w : Width) (n : Nat) :
    compare w reg loc (s.advance n) = { s.advance n with p := (compare w reg loc s).p } := by
  rw [compare, locRead_advance]
  rfl

/-- R200: a comparison writes c, n and z only. -/
theorem compare_keeps (w : Width) : Keeps 0x7C s (compare w reg loc s) :=
  (setNZ_and_of_disjoint _ w _ 0x7C (by decide) (by decide)).trans
    (putFlag_and_of_disjoint s.p maskC 0x7C _ (by decide))

/-- R200: c says that the register is not below the operand. -/
theorem flagC_compare :
    (compare (.ofFlag f) (truncTo (.ofFlag f) reg) loc s).flagC = decide (value s loc f ≤ reg.toNat % size f) := by
  have hcarry := subBin_carry (.ofFlag f) (a := truncTo (.ofFlag f) reg) true (locRead_lt s loc (.ofFlag f))
  rw [value_eq, truncTo_toNat, ← size_eq] at hcarry
  exact ((flagC_setNZ _ _ _).trans (flagC_setC s _)).trans hcarry

/-- R11, R200: n and z are those of the wrapped difference. -/
theorem compare_setsNZ :
    SetsNZ (compare (.ofFlag f) (truncTo (.ofFlag f) reg) loc s) f
      ((reg.toNat % size f + size f - value s loc f) % size f) := by
  have hvalue := subBin_value (.ofFlag f) (a := truncTo (.ofFlag f) reg) true (locRead_lt s loc (.ofFlag f))
  rw [value_eq, truncTo_toNat, ← size_eq] at hvalue
  have hmod := (congrArg (· % size f) hvalue).trans (Nat.mod_mod _ _)
  exact hmod ▸ setNZ_sets _ f _

end Compare

/-! ### The three operators -/

/-- R201, R202, R203: the flag that gives the width of a comparison. -/
def compareFlag (op : Mnemonic) (s : State) : Bool := if op = .cmp then s.flagM else s.flagX

/-- R201, R202, R203: the register that is compared. -/
def compareReg (op : Mnemonic) (s : State) : Word := if op = .cmp then s.c else if op = .cpx then s.x else s.y

/-- R200: the operator `op` of the three: its register, at its width, against the location. -/
def opCompare (op : Mnemonic) (loc : Loc) (s : State) : State :=
  compare (.ofFlag (compareFlag op s)) (truncTo (.ofFlag (compareFlag op s)) (compareReg op s)) loc s

/-- R201, R202, R203, R364: CMP, CPX or CPY, in any of its modes, is that operator in its location. -/
theorem exec_compare {i : Instr} (h : i.mnemonic ∈ [.cmp, .cpx, .cpy]) (s : State) :
    ∃ f, modeLoc i.mnemonic i.operand s = some f ∧ f.len = i.length ∧
      exec i s = chargeCycles (complete i.opcode f.adj (extraRead (compareFlag i.mnemonic s) f.operand)
        (opCompare i.mnemonic f.operand (s.advance f.len))) := by
  simp only [List.mem_cons, List.not_mem_nil, or_false] at h
  rcases h with h | h | h <;> rw [h]
  · exact exec_cmp h s
  · exact exec_cpx h s
  · exact exec_cpy h s

/-- R364, R365: the cycles of an operator that reads its operand at the width of a flag. -/
theorem cycles_eq_extraRead_of_charge {i : Instr} {s : State} {f : Formed Loc} {flag : Bool}
    (h : modeLoc i.mnemonic i.operand s = some f) (hpei : i.mnemonic ≠ .pei)
    (hcharge : charge i s (operatorPen i.mnemonic) = widthPen flag) :
    cycles i s = baseCycles i.opcode + f.adj + extraRead flag f.operand := by
  rw [cycles_eq i s h hpei, hcharge, extraRead]
  cases f.operand.isImm <;> rfl

/-- R201, R202, R203, R365: the operand of a comparison is charged by the flag of its width. -/
theorem charge_compare {i : Instr} (h : i.mnemonic ∈ [.cmp, .cpx, .cpy]) (s : State) :
    charge i s (operatorPen i.mnemonic) = widthPen (compareFlag i.mnemonic s) := by
  simp only [List.mem_cons, List.not_mem_nil, or_false] at h
  rcases h with h | h | h <;> rw [h] <;> rfl

/-- R360, R364: a comparison completes past the instruction, with its cycles and its flags; nothing else changes. -/
theorem exec_compare_eq {i : Instr} (h : i.mnemonic ∈ [.cmp, .cpx, .cpy]) (s : State) :
    ∃ f, modeLoc i.mnemonic i.operand s = some f ∧
      exec i s = .next { passed i s with p := (opCompare i.mnemonic f.operand s).p } := by
  obtain ⟨f, hf, hlen, hx⟩ := exec_compare h s
  have hpei : i.mnemonic ≠ .pei := fun hp => absurd (hp ▸ h) (by decide)
  have hop : opCompare i.mnemonic f.operand (s.advance i.length) =
      { s.advance i.length with p := (opCompare i.mnemonic f.operand s).p } := compare_advance _ f.operand s _ _
  refine ⟨f, hf, ?_⟩
  rw [hx, hlen, hop, chargeCycles_complete, ← cycles_eq_extraRead_of_charge hf hpei (charge_compare h s)]
  rfl

/-- Settles O32: the flags of the comparison, whose difference is 0 exactly when register and operand are equal. -/
theorem compareFlags : Obligations.CompareFlags := by
  unfold Obligations.CompareFlags
  intro i s hmn
  obtain ⟨f, hf, hx⟩ := exec_compare_eq hmn s
  let w := compareFlag i.mnemonic s
  have hc := flagC_compare w (compareReg i.mnemonic s) f.operand s
  obtain ⟨hn, hz⟩ := compare_setsNZ w (compareReg i.mnemonic s) f.operand s
  rw [decide_eq_decide.mpr (sub_mod_size_eq_zero_iff (Nat.mod_lt _ (size_pos w)) (value_lt s f.operand w))] at hz
  exact ⟨f, _, hf, hx, rfl, compare_keeps _ f.operand s _, hc, hz, hn⟩

end Sys2Proof.Machine

/-! PROOFS. The loads, the stores and the transfers (R210 to R230): the width is the destination's, or the stored register's. -/

namespace Sys2Proof.Machine

open Sys2Proof.Claims

/-! ### Loads -/

/-- R211, R212, R213: the flag that gives the width of a load. -/
def loadFlag (op : Mnemonic) (s : State) : Bool := if op = .lda then s.flagM else s.flagX

/-- R211, R212, R213: a value put into the register that `op` loads, through its setter. -/
def State.putLoaded (op : Mnemonic) (v : Word) (s : State) : State :=
  if op = .lda then s.setA s.wM v else if op = .ldx then s.setX s.wX v else s.setY s.wX v

/-- R211, R212, R213: the operator `op` of the three: the location at the width of the register into it, with n and z. -/
def opLoad (op : Mnemonic) (loc : Loc) (s : State) : State :=
  let v := s.locRead loc (.ofFlag (loadFlag op s))
  (s.putLoaded op v).setNZ (.ofFlag (loadFlag op s)) v

/-- R211, R212, R213, R364: LDA, LDX or LDY, in any of its modes, is that operator in its location. -/
theorem exec_load {i : Instr} (h : i.mnemonic ∈ [.lda, .ldx, .ldy]) (s : State) :
    ∃ f, modeLoc i.mnemonic i.operand s = some f ∧ f.len = i.length ∧
      exec i s = chargeCycles (complete i.opcode f.adj (extraRead (loadFlag i.mnemonic s) f.operand)
        (opLoad i.mnemonic f.operand (s.advance f.len))) := by
  simp only [List.mem_cons, List.not_mem_nil, or_false] at h
  rcases h with h | h | h <;> rw [h]
  · exact exec_lda h s
  · exact exec_ldx h s
  · exact exec_ldy h s

/-- R211, R212, R213, R365: the operand of a load is charged by the flag of its width. -/
theorem charge_load {i : Instr} (h : i.mnemonic ∈ [.lda, .ldx, .ldy]) (s : State) :
    charge i s (operatorPen i.mnemonic) = widthPen (loadFlag i.mnemonic s) := by
  simp only [List.mem_cons, List.not_mem_nil, or_false] at h
  rcases h with h | h | h <;> rw [h] <;> rfl

/-- R360, R364: a load completes past the instruction, with its cycles. -/
theorem exec_load_eq {i : Instr} (h : i.mnemonic ∈ [.lda, .ldx, .ldy]) (s : State) :
    ∃ f, modeLoc i.mnemonic i.operand s = some f ∧
      exec i s = .next ((opLoad i.mnemonic f.operand (s.advance i.length)).addCycles (cycles i s)) := by
  obtain ⟨f, hf, hlen, hx⟩ := exec_load h s
  have hpei : i.mnemonic ≠ .pei := fun hp => absurd (hp ▸ h) (by decide)
  refine ⟨f, hf, ?_⟩
  rw [hx, hlen, chargeCycles_complete, ← cycles_eq_extraRead_of_charge hf hpei (charge_load h s)]
  rfl

section Load

variable (op : Mnemonic) (loc : Loc) (s : State)

/-- R34 to R36: the setters write no flag. -/
theorem State.putLoaded_p (v : Word) : (s.putLoaded op v).p = s.p := by
  unfold State.putLoaded
  split_ifs <;> rfl

/-- R211, R212, R213: a load writes n and z only. -/
theorem opLoad_keeps : Keeps 0x7D s (opLoad op loc s) :=
  (setNZ_keeps _ _ _).trans (congrArg (· &&& _) (State.putLoaded_p op s _))

/-- R41: what is read fits the width it is read at. -/
theorem locRead_mod_size (f : Bool) : (s.locRead loc (.ofFlag f)).toNat % size f = value s loc f := by
  rw [value_eq, Nat.mod_eq_of_lt (value_lt s loc f)]

/-- R211, R212, R213: n and z of a load are those of the value read. -/
theorem opLoad_setsNZ : SetsNZ (opLoad op loc s) (loadFlag op s) (value s loc (loadFlag op s)) :=
  locRead_mod_size loc s _ ▸ setNZ_sets _ (loadFlag op s) _

/-- R211: LDA puts the value read into the accumulator, of which an 8-bit value leaves `B`. -/
theorem opLoad_lda_c : (opLoad .lda loc s).c.toNat = putAcc s (value s loc s.flagM) :=
  locRead_mod_size loc s _ ▸ setA_putAcc s _

/-- R35, R41: an index register takes a value read at its width as it is. -/
theorem truncTo_locRead (f : Bool) : (truncTo (.ofFlag f) (s.locRead loc (.ofFlag f))).toNat = value s loc f := by
  rw [truncTo_toNat, ← size_eq, locRead_mod_size]

end Load

/-- Settles O33: n and z for the three at once, then each destination with its frame. -/
theorem loads : Obligations.Loads := by
  unfold Obligations.Loads
  intro i s hmn
  obtain ⟨f, hf, hx⟩ := exec_load_eq hmn s
  let u := s.advance i.length
  have hvalue (w : Bool) : value u f.operand w = value s f.operand w := value_congr rfl rfl _ _
  have hnz := opLoad_setsNZ i.mnemonic f.operand u
  rw [hvalue] at hnz
  refine ⟨f, _, hf, hx, opLoad_keeps i.mnemonic f.operand u, hnz, fun h => ?_, fun h => ?_, fun h => ?_⟩ <;>
    rw [h, ← hvalue]
  · exact ⟨rfl, opLoad_lda_c f.operand u⟩
  · exact ⟨rfl, truncTo_locRead f.operand u u.flagX⟩
  · exact ⟨rfl, truncTo_locRead f.operand u u.flagX⟩

/-! ### Stores -/

/-- R214 to R217: the flag that gives the width of a store. -/
def storeFlag (op : Mnemonic) (s : State) : Bool := if op ∈ [.sta, .stz] then s.flagM else s.flagX

/-- R214 to R217: what is stored: a register, or 0. -/
def storeReg (op : Mnemonic) (s : State) : Word :=
  if op = .sta then s.c else if op = .stx then s.x else if op = .sty then s.y else 0

/-- R214 to R217: the operator `op` of the four: its register, at its width, to the location. -/
def opStore (op : Mnemonic) (loc : Loc) (s : State) : Except Refusal State :=
  s.locWrite loc (.ofFlag (storeFlag op s)) (truncTo (.ofFlag (storeFlag op s)) (storeReg op s))

/-- R217: 0 is 0 at either width. -/
theorem opStz_eq (loc : Loc) (s : State) : opStz loc s = opStore .stz loc s := by
  have hzero (w : Width) : truncTo w 0 = 0 := by cases w <;> rfl
  exact congrArg (s.locWrite loc s.wM) (hzero s.wM).symm

/-- R214 to R217, R364: STA, STX, STY or STZ, in any of its modes, is that operator in its location. -/
theorem exec_store {i : Instr} (h : i.mnemonic ∈ [.sta, .stx, .sty, .stz]) (s : State) :
    ∃ f, modeLoc i.mnemonic i.operand s = some f ∧ f.len = i.length ∧
      exec i s = chargeCycles (completeWrite i.opcode f.adj (extraRead (storeFlag i.mnemonic s) f.operand)
        (opStore i.mnemonic f.operand (s.advance f.len))) := by
  simp only [List.mem_cons, List.not_mem_nil, or_false] at h
  rcases h with h | h | h | h <;> rw [h]
  · exact exec_sta h s
  · exact exec_stx h s
  · exact exec_sty h s
  · simp only [← opStz_eq]
    exact exec_stz h s

/-- R214 to R217, R365: the operand of a store is charged by the flag of its width. -/
theorem charge_store {i : Instr} (h : i.mnemonic ∈ [.sta, .stx, .sty, .stz]) (s : State) :
    charge i s (operatorPen i.mnemonic) = widthPen (storeFlag i.mnemonic s) := by
  simp only [List.mem_cons, List.not_mem_nil, or_false] at h
  rcases h with h | h | h | h <;> rw [h] <;> rfl

/-- R100: no store has an immediate or an accumulator form. -/
theorem operand_of_store {i : Instr} (h : i.mnemonic ∈ [.sta, .stx, .sty, .stz]) :
    isImmediate i.operand = false ∧ i.operand ≠ .acc := by
  replace h := decide_eq_true h
  cases i <;> first
    | exact ⟨rfl, Operand.noConfusion⟩
    | cases h

/-- R360, R364: a store completes past the instruction, with its cycles; of the state its write changes memory alone. -/
theorem exec_store_eq {i : Instr} (h : i.mnemonic ∈ [.sta, .stx, .sty, .stz]) (s : State) :
    ∃ f m, modeLoc i.mnemonic i.operand s = some f ∧ f.operand.isImm = false ∧ f.operand ≠ .regA ∧
      opStore i.mnemonic f.operand (s.advance i.length) = .ok { s.advance i.length with mem := m } ∧
      exec i s = .next { passed i s with mem := m } := by
  obtain ⟨himm, hacc⟩ := operand_of_store h
  obtain ⟨f, hf, hlen, hx⟩ := exec_store h s
  replace himm : f.operand.isImm = false := (isImm_of_modeLoc hf).trans himm
  have hreg : f.operand ≠ .regA := fun hr => hacc ((operand_regA_iff (P := .std) (by rw [locOf, hf])).mp hr)
  have hpei : i.mnemonic ≠ .pei := fun hp => absurd (hp ▸ h) (by decide)
  obtain ⟨m, hm⟩ := locWrite_memory (s := s.advance i.length) himm hreg _ _
  refine ⟨f, m, hf, himm, hreg, hm, ?_⟩
  rw [hx, hlen, opStore, hm, completeWrite_ok, chargeCycles_complete,
    ← cycles_eq_extraRead_of_charge hf hpei (charge_store h s)]
  rfl

/-- R35, R210: a value truncated to a width keeps its remainder at that width. -/
theorem truncTo_mod_size (f : Bool) (v : Word) : (truncTo (.ofFlag f) v).toNat % size f = v.toNat % size f := by
  rw [truncTo_toNat, ← size_eq, Nat.mod_mod]

section LocWrite

variable {s t : State} {loc : Loc} {f : Bool} {v : Word}

/-- R41, R42: the value of a location after a write. -/
theorem value_locWrite (h : s.locWrite loc (.ofFlag f) v = .ok t) : value t loc f = v.toNat % size f := by
  rw [← value_eq, locRead_locWrite h, truncTo_toNat, size_eq]

/-- R42: a write changes the bytes of its location. -/
theorem onlyStores_locWrite (h : s.locWrite loc (.ofFlag f) v = .ok t) : OnlyStores (bytesOf loc f) s t := by
  obtain ⟨-, -, hother⟩ := locWrite_frame h
  exact fun a ha => hother a (bytesOf_eq loc f ▸ ha)

/-- R40: a location in memory has a byte. -/
theorem bytesOf_ne_nil (himm : loc.isImm = false) (hreg : loc ≠ .regA) : bytesOf loc f ≠ [] := by
  cases loc with
  | memBank | memLong => cases f <;> exact List.cons_ne_nil _ _
  | imm => cases himm
  | regA => exact absurd rfl hreg

/-- R214 to R217: after a store the location holds the register at its width. -/
theorem value_opStore {op : Mnemonic} (h : opStore op loc s = .ok t) :
    value t loc (storeFlag op s) = (storeReg op s).toNat % size (storeFlag op s) := by
  rw [value_locWrite h, truncTo_mod_size]

/-- R214 to R217: a store changes the bytes of its location. -/
theorem onlyStores_opStore {op : Mnemonic} (h : opStore op loc s = .ok t) :
    OnlyStores (bytesOf loc (storeFlag op s)) s t :=
  onlyStores_locWrite h

end LocWrite

/-! ### Transfers at the width of the destination -/

/-- R35, R210: a value truncated for its destination passes its setter as it is. -/
theorem truncTo_truncTo (f : Bool) (v : Word) :
    (truncTo (.ofFlag f) (truncTo (.ofFlag f) v)).toNat = v.toNat % size f := by
  rw [truncTo_toNat, ← size_eq, truncTo_mod_size]

section Moves

variable {s t : State} (v : Word)

/-- R35, R210: what a transfer to `X` leaves. -/
theorem moveToX_leaves (ht : t = (moveToX v (s.advance 1)).addCycles 2) :
    t = { s with x := t.x, p := t.p, pc := s.pc + 1, cyc := s.cyc + 2 } ∧ Keeps 0x7D s t ∧
      t.x.toNat = v.toNat % size s.flagX ∧ SetsNZ t s.flagX t.x.toNat := by
  subst ht
  exact ⟨rfl, setNZ_keeps _ _ _, truncTo_truncTo s.flagX v, setNZ_setsTruncated _ s.flagX _⟩

/-- R35, R210: what a transfer to `Y` leaves. -/
theorem moveToY_leaves (ht : t = (moveToY v (s.advance 1)).addCycles 2) :
    t = { s with y := t.y, p := t.p, pc := s.pc + 1, cyc := s.cyc + 2 } ∧ Keeps 0x7D s t ∧
      t.y.toNat = v.toNat % size s.flagX ∧ SetsNZ t s.flagX t.y.toNat := by
  subst ht
  exact ⟨rfl, setNZ_keeps _ _ _, truncTo_truncTo s.flagX v, setNZ_setsTruncated _ s.flagX _⟩

/-- R36, R210: what a transfer to the accumulator leaves. -/
theorem moveToA_leaves (ht : t = (moveToA v (s.advance 1)).addCycles 2) :
    t = { s with c := t.c, p := t.p, pc := s.pc + 1, cyc := s.cyc + 2 } ∧ Keeps 0x7D s t ∧
      t.c.toNat = putAcc s (v.toNat % size s.flagM) ∧ SetsNZ t s.flagM (v.toNat % size s.flagM) := by
  subst ht
  have hmod := truncTo_mod_size s.flagM v
  exact ⟨rfl, setNZ_keeps _ _ _, hmod ▸ setA_putAcc s _, hmod ▸ setNZ_sets _ s.flagM _⟩

end Moves

/-- Settles O35: each row is a transfer to its destination, in its base count of 2. -/
theorem transfersAtDestinationWidth : Obligations.TransfersAtDestinationWidth := by
  unfold Obligations.TransfersAtDestinationWidth
  refine fun s => ⟨fun row hrow => ?_, fun row hrow => ?_, fun row hrow => ?_⟩ <;>
    simp only [List.mem_cons, List.not_mem_nil, or_false] at hrow
  · rcases hrow with rfl | rfl | rfl <;> exact ⟨rfl, _, rfl, moveToX_leaves _ rfl⟩
  · rcases hrow with rfl | rfl <;> exact ⟨rfl, _, rfl, moveToY_leaves _ rfl⟩
  · rcases hrow with rfl | rfl <;> exact ⟨rfl, _, rfl, moveToA_leaves _ rfl⟩

/-! ### Transfers of all 16 bits -/

/-- R11: n and z of all 16 bits of a value. -/
theorem setNZ_sets_w16 (s : State) (v : Word) : SetsNZ (s.setNZ .w16 v) false v.toNat :=
  Nat.mod_eq_of_lt v.isLt ▸ setNZ_sets s false v

/-- R11, R230: n and z of the low byte of a value. -/
theorem setNZ_sets_w8 (s : State) (l h : Byte) : SetsNZ (s.setNZ .w8 (word l h)) true l.toNat := by
  have hmod : (word l h).toNat % size true = l.toNat := by
    have := l.isLt
    rw [word_toNat, size, if_pos rfl]
    omega
  exact hmod ▸ setNZ_sets s true (word l h)

/-- Settles O36: each of the four writes its register whatever m is, with the n and z of the value or of its new low byte. -/
theorem fullWidthTransfers : Obligations.FullWidthTransfers := by
  unfold Obligations.FullWidthTransfers
  refine fun s => ⟨rfl, rfl, rfl, rfl, ?_, ?_, ?_, ?_⟩
  · exact ⟨_, rfl, rfl, setNZ_keeps _ _ _, setNZ_sets_w16 _ s.c⟩
  · exact ⟨_, rfl, rfl, setNZ_keeps _ _ _, setNZ_sets_w16 _ s.d⟩
  · exact ⟨_, rfl, rfl, setNZ_keeps _ _ _, setNZ_sets_w16 _ s.sp⟩
  · exact ⟨_, rfl, rfl, setNZ_keeps _ _ _, setNZ_sets_w8 _ (hi s.c) (lo s.c)⟩

/-- R34, R364: a write of `S` through `SetS` in an instruction of one byte and 2 cycles, item by item. -/
theorem setS_advance_addCycles (s : State) (v : Word) :
    ((s.advance 1).setS v).addCycles 2 =
      { s with sp := if s.e then word (lo v) 0x01 else v, pc := s.pc + 1, cyc := s.cyc + 2 } := by
  rw [setS_eq]
  rfl

/-- Settles O37: either row is `SetS` of its register. -/
theorem transfersToStackPointer : Obligations.TransfersToStackPointer := by
  unfold Obligations.TransfersToStackPointer
  intro s row hrow
  rcases List.mem_pair.mp hrow with rfl | rfl
  · exact ⟨rfl, congrArg Host.Outcome.next (setS_advance_addCycles s s.x)⟩
  · exact ⟨rfl, congrArg Host.Outcome.next (setS_advance_addCycles s s.c)⟩

end Sys2Proof.Machine

/-! ### The statement of the stores

It stands outside `Sys2Proof.Machine`, where the name `stores` is that of the actions of a write. -/

namespace Sys2Proof

open Sys2Proof.Machine

/-- Settles O34: the location is memory, so the write is accepted, and it is the only change but PC and CYC. -/
theorem stores : Obligations.Stores := by
  unfold Obligations.Stores
  intro i s hmn
  obtain ⟨f, m, hf, himm, hreg, hm, hx⟩ := exec_store_eq hmn s
  have hvalue := value_opStore hm
  have honly := onlyStores_opStore hm
  exact ⟨f, _, hf, hx, rfl, (value_congr rfl rfl _ _).trans hvalue, bytesOf_ne_nil himm hreg, honly⟩

end Sys2Proof

/-! PROOFS. The stack in the words of the statements: where the pushes of an instruction go and what the pulls after them find.
Then the control flow (R251 to R270): a return undoes its call because its pulls find what the call pushed. -/

namespace Sys2Proof.Machine

open Sys2Proof.Claims

/-! ### The stack pointer after pushes and pulls -/

theorem lo_inPage (e : Bool) (v : Word) : lo (inPage e v) = lo v := by
  cases e
  · rfl
  · exact lo_word _ _

/-- R34: a sum computed from a stack pointer in its page is the same in the page. -/
theorem inPage_inPage_add (e : Bool) (v w : Word) : inPage e (inPage e v + w) = inPage e (v + w) := by
  cases e
  · rfl
  · have hlo : lo (word (lo v) 0x01 + w) = lo (v + w) := by
      rw [lo, BitVec.setWidth_add _ _ (by decide), ← lo, lo_word, lo, lo, BitVec.setWidth_add _ _ (by decide)]
    exact congrArg (word · 0x01) hlo

/-- R25: under invariant IS the stack pointer is in its page. -/
theorem inPage_of_invIS {s : State} (h : InvIS s) : inPage s.e s.sp = s.sp := by
  unfold inPage
  split
  · exact pageOne_of_inPage (h ‹_›)
  · rfl

/-- R68: the stack pointer after pushes, from any stack pointer. -/
theorem spDown_succ (e : Bool) (k : Nat) (sp : Word) :
    spDown e (k + 1) sp = inPage e (sp - BitVec.ofNat 16 (k + 1)) := by
  induction k generalizing sp with
  | zero => rfl
  | succ k ih =>
    have hstep : sp - 1 - BitVec.ofNat 16 (k + 1) = sp - BitVec.ofNat 16 (k + 1 + 1) := by bv_omega
    rw [spDown, ih, BitVec.sub_eq_add_neg, inPage_inPage_add, ← BitVec.sub_eq_add_neg, hstep]

/-- R69: the stack pointer after pulls, from any stack pointer. -/
theorem spUp_succ (e : Bool) (k : Nat) (sp : Word) :
    spUp e (k + 1) sp = inPage e (sp + BitVec.ofNat 16 (k + 1)) := by
  induction k generalizing sp with
  | zero => rfl
  | succ k ih =>
    have hstep : sp + 1 + BitVec.ofNat 16 (k + 1) = sp + BitVec.ofNat 16 (k + 1 + 1) := by bv_omega
    rw [spUp, ih, inPage_inPage_add, hstep]

/-- R68: the stack pointer after pushes, from a stack pointer in its page. -/
theorem spDown_eq {e : Bool} {sp : Word} (h : inPage e sp = sp) (k : Nat) :
    spDown e k sp = inPage e (sp - BitVec.ofNat 16 k) := by
  cases k with
  | zero => rw [spDown, BitVec.sub_zero, h]
  | succ k => exact spDown_succ e k sp

/-- R68, R69: pulls take the stack pointer back over as many pushes. -/
theorem spUp_spDown {e : Bool} {sp : Word} (h : inPage e sp = sp) (k j : Nat) :
    spUp e k (spDown e (j + k) sp) = spDown e j sp := by
  cases k with
  | zero => rfl
  | succ k =>
    have hback : sp - BitVec.ofNat 16 (j + (k + 1)) + BitVec.ofNat 16 (k + 1) = sp - BitVec.ofNat 16 j := by
      bv_omega
    rw [spUp_succ, spDown_eq h, inPage_inPage_add, hback, ← spDown_eq h]

/-! ### Pushes -/

/-- R68: fewer than 0x100 further pushes do not reach the byte of the first one, in either mode. -/
theorem pushedAt_succ_ne {s : State} {k : Nat} (hk : k + 1 < 0x100) : addr 0x00 s.sp ≠ pushedAt s (k + 1) := by
  intro h
  have hsp : s.sp = spDown s.e (k + 1) s.sp := (addr_inj.mp h).2
  rw [spDown_succ] at hsp
  have hlo := congrArg (fun v => (lo v).toNat) hsp
  simp only [lo_inPage, lo_toNat, BitVec.toNat_sub, BitVec.toNat_ofNat] at hlo
  omega

theorem pushes_nil (s : State) : Pushes [] s s := ⟨rfl, nofun, fun _ _ => rfl⟩

/-- R68: one push, and the further ones from the state it leaves. -/
theorem pushes_cons {b : Byte} {bs : List Byte} {s t : State} (hlen : (b :: bs).length ≤ 0x100)
    (h : Pushes bs (s.push8 b) t) :
    Pushes (b :: bs) s t := by
  obtain ⟨hsp, hin, hout⟩ := h
  refine ⟨hsp, fun k hk => ?_, fun a ha => ?_⟩
  · cases k with
    | zero =>
      have hfirst := hout (addr 0x00 s.sp) fun k hk => pushedAt_succ_ne ((Nat.succ_lt_succ hk).trans_le hlen)
      exact hfirst.trans (readMem_push8_same s b)
    | succ k => exact hin k (Nat.lt_of_succ_lt_succ hk)
  · have hrest := hout a fun k hk => ha (k + 1) (Nat.succ_lt_succ hk)
    exact hrest.trans (readMem_push8_other s b (ha 0 (Nat.succ_pos _)))

/-- R68: bytes pushed one by one. -/
theorem pushes_performAll {bytes : List Byte} (hlen : bytes.length ≤ 0x100) (s : State) :
    Pushes bytes s (performAll (bytes.map .push) s) := by
  induction bytes generalizing s with
  | nil => exact pushes_nil s
  | cons b bs ih => exact pushes_cons hlen (ih (Nat.le_of_succ_le hlen) (s.push8 b))

/-- R68: a state pushes the bytes when it has the stack pointer and the memory of the pushes one by one. -/
theorem pushes_of_eq {bytes : List Byte} (hlen : bytes.length ≤ 0x100) {s t : State}
    (hsp : t.sp = (performAll (bytes.map .push) s).sp) (hmem : t.mem = (performAll (bytes.map .push) s).mem) :
    Pushes bytes s t := by
  have h := pushes_performAll hlen s
  unfold Pushes State.readMem at *
  rw [hsp, hmem]
  exact h

/-! ### Pulls right after the pushes -/

section PullsAfterPushes

variable {bytes : List Byte} {s t : State} (h : Pushes bytes s t) (he : t.e = s.e) (hs : InvIS s)

include h he hs

/-- R68, R69: as many pulls as pushes give the stack pointer back. -/
theorem spUp_of_pushes : spUp t.e bytes.length t.sp = s.sp := by
  obtain ⟨hsp, -, -⟩ := h
  have hback := spUp_spDown (inPage_of_invIS hs) bytes.length 0
  rw [Nat.zero_add] at hback
  rw [hsp, he, hback, spDown]

/-- R68, R69: the pulls find the bytes pushed, the last one first. -/
theorem pulled_of_pushes {j k : Nat} (hj : j + (k + 1) = bytes.length) : pulled t k = bytes.getD j 0x00 := by
  obtain ⟨hsp, hin, -⟩ := h
  have haddr : addr 0x00 (spUp t.e (k + 1) t.sp) = pushedAt s j := by
    rw [hsp, he, ← hj, spUp_spDown (inPage_of_invIS hs), pushedAt]
  rw [pulled, haddr, hin j (by omega)]

end PullsAfterPushes

/-! ### Jumps -/

/-- R62, R65: a 24-bit value read inside a bank is the three bytes, low byte first. -/
theorem readBank_three (s : State) (bank : Byte) (off : Word) :
    BitVec.ofNat 24 (s.readBank bank off 3) =
      addr (s.readMem (addr bank (off + 2)))
        (word (s.readMem (addr bank off)) (s.readMem (addr bank (off + 1)))) := by
  rw [show off + 2 = off + 1 + 1 from (BitVec.add_assoc off 1 1).symm]
  apply BitVec.eq_of_toNat_eq
  rw [addr_toNat, word_toNat]
  have := (s.readMem (addr bank off)).isLt
  have := (s.readMem (addr bank (off + 1))).isLt
  have := (s.readMem (addr bank (off + 1 + 1))).isLt
  simp [State.readBank, bankAddrs, State.readBytes]
  omega

/-- R146: the target of `iabs`. -/
theorem modeIabs_operand (aa : Word) (s : State) :
    (modeIabs aa s).operand = word (s.readMem (addr 0x00 aa)) (s.readMem (addr 0x00 (aa + 1))) :=
  readBank_two s 0x00 aa

/-- R147: the target of `iabsx`. -/
theorem modeIabsx_operand (aa : Word) (s : State) :
    (modeIabsx aa s).operand =
      word (s.readMem (addr s.pbr (aa + s.x))) (s.readMem (addr s.pbr (aa + s.x + 1))) :=
  readBank_two s s.pbr (aa + s.x)

/-- R148: the target of `ilabs`. -/
theorem modeIlabs_operand (aa : Word) (s : State) :
    (modeIlabs aa s).operand = addr (s.readMem (addr 0x00 (aa + 2)))
      (word (s.readMem (addr 0x00 aa)) (s.readMem (addr 0x00 (aa + 1)))) :=
  readBank_three s 0x00 aa

/-- R251: what JMP leaves, its count `n` known. -/
theorem jmpWith_eq {op : Byte} {f : Formed Word} {n : Int} (hn : baseCycles op + f.adj + 0 = n) (s : State) :
    chargeCycles (jmpWith op f s) = .next { s with pc := f.operand, cyc := s.cyc + BitVec.ofInt 64 n } := by
  rw [← hn]
  rfl

/-- R252: what JML leaves, its count `n` known. -/
theorem jmlWith_eq {op : Byte} {f : Formed Addr} {n : Int} (hn : baseCycles op + f.adj + 0 = n) (s : State) :
    chargeCycles (jmlWith op f s) = .next
      { s with pbr := bankOf f.operand, pc := offOf f.operand, cyc := s.cyc + BitVec.ofInt 64 n } := by
  rw [← hn]
  rfl

/-- Settles O38: each is JMP or JML with the target of its mode. -/
theorem jumps : Obligations.Jumps := by
  unfold Obligations.Jumps
  refine fun aa al s => ⟨rfl, jmpWith_eq rfl s, rfl, ?_, rfl, ?_, rfl, jmlWith_eq rfl s, rfl, ?_⟩
  · rw [← modeIabs_operand]
    exact jmpWith_eq rfl s
  · rw [← modeIabsx_operand]
    exact jmpWith_eq rfl s
  · have h := jmlWith_eq (op := 0xDC) (f := modeIlabs aa s) (n := 6) rfl s
    rw [modeIlabs_operand, bankOf_addr, offOf_addr] at h
    exact h

/-! ### Calls -/

/-- R253: JSR in any mode. -/
theorem jsrWith_leaves {op : Byte} {f : Formed Word} {n : Int} (hn : baseCycles op + f.adj + 0 = n) (s : State) :
    ∃ t, chargeCycles (jsrWith op f s) = .next t ∧
      t = { s with sp := t.sp, mem := t.mem, pc := f.operand, cyc := s.cyc + BitVec.ofInt 64 n } ∧
      Pushes [hi (s.pc + 2), lo (s.pc + 2)] s t := by
  rw [jsrWith, chargeCycles_complete, hn, push16_eq, push8_eq, push8_eq]
  exact ⟨_, rfl, rfl, pushes_of_eq (by simp) rfl rfl⟩

/-- R254: JSL in any mode. -/
theorem jslWith_leaves {op : Byte} {f : Formed Addr} {n : Int} (hn : baseCycles op + f.adj + 0 = n) (s : State) :
    ∃ t, chargeCycles (jslWith op f s) = .next t ∧
      t = { s with
        sp := t.sp
        mem := t.mem
        pbr := bankOf f.operand
        pc := offOf f.operand
        cyc := s.cyc + BitVec.ofInt 64 n } ∧
      Pushes [s.pbr, hi (s.pc + 3), lo (s.pc + 3)] s t := by
  rw [jslWith, chargeCycles_complete, hn, push16_eq, push8_eq, push8_eq, push8_eq]
  exact ⟨_, rfl, rfl, pushes_of_eq (by simp) rfl rfl⟩

/-- Settles O39: the target is the operand of the mode, formed in the state before the pushes. -/
theorem callsPushTheReturnOffset : Obligations.CallsPushTheReturnOffset := by
  unfold Obligations.CallsPushTheReturnOffset
  refine fun aa al s => ⟨rfl, rfl, rfl, jsrWith_leaves rfl s, ?_, jslWith_leaves rfl s⟩
  rw [← modeIabsx_operand]
  exact jsrWith_leaves rfl s

/-! ### Returns -/

/-- Settles O40: the pulls one by one. -/
theorem returnsFromSubroutine : Obligations.ReturnsFromSubroutine := by
  unfold Obligations.ReturnsFromSubroutine
  refine fun s => ⟨rfl, ?_, rfl, ?_⟩
  · have hx : exec .rts s = .next (State.addCycles (opRts (s.advance 1)) 6) := rfl
    rw [hx, opRts, pull16_eq, pull8_eq, pull8_eq, State.setPc, State.addCycles]
    rfl
  · have hx : exec .rtl s = .next (State.addCycles (opRtl (s.advance 1)) 6) := rfl
    rw [hx, opRtl, pull24_eq, bankOf_addr, offOf_addr, pull16_eq, pull8_eq, pull8_eq, pull8_eq, State.addCycles]
    rfl

/-- R253, R255: RTS after a call that pushed the offset `ret`. -/
theorem rts_after_call {i : Instr} {s : State} {pc ret : Word} {cyc : CycleCount} (hs : InvIS s)
    (h : ∃ t, exec i s = .next t ∧ t = { s with sp := t.sp, mem := t.mem, pc := pc, cyc := cyc } ∧
      Pushes [hi ret, lo ret] s t) :
    ∃ t u, exec i s = .next t ∧ exec .rts t = .next u ∧ u = { s with pc := ret + 1, mem := t.mem, cyc := u.cyc } := by
  obtain ⟨t, hx, ht, hp⟩ := h
  obtain ⟨-, hrts, -⟩ := returnsFromSubroutine t
  have he : t.e = s.e := by rw [ht]
  have hsp : spUp t.e 2 t.sp = s.sp := spUp_of_pushes hp he hs
  have hlow : pulled t 0 = lo ret := pulled_of_pushes hp he hs (j := 1) rfl
  have hhigh : pulled t 1 = hi ret := pulled_of_pushes hp he hs (j := 0) rfl
  rw [hsp, hlow, hhigh, word_lo_hi] at hrts
  refine ⟨t, _, hx, hrts, ?_⟩
  rw [ht]

/-- R254, R256: RTL after a call that pushed the bank and the offset `ret`. -/
theorem rtl_after_call {i : Instr} {s : State} {pbr : Byte} {pc ret : Word} {cyc : CycleCount} (hs : InvIS s)
    (h : ∃ t, exec i s = .next t ∧ t = { s with sp := t.sp, mem := t.mem, pbr := pbr, pc := pc, cyc := cyc } ∧
      Pushes [s.pbr, hi ret, lo ret] s t) :
    ∃ t u, exec i s = .next t ∧ exec .rtl t = .next u ∧ u = { s with pc := ret + 1, mem := t.mem, cyc := u.cyc } := by
  obtain ⟨t, hx, ht, hp⟩ := h
  obtain ⟨-, -, -, hrtl⟩ := returnsFromSubroutine t
  have he : t.e = s.e := by rw [ht]
  have hsp : spUp t.e 3 t.sp = s.sp := spUp_of_pushes hp he hs
  have hlow : pulled t 0 = lo ret := pulled_of_pushes hp he hs (j := 2) rfl
  have hhigh : pulled t 1 = hi ret := pulled_of_pushes hp he hs (j := 1) rfl
  have hbank : pulled t 2 = s.pbr := pulled_of_pushes hp he hs (j := 0) rfl
  rw [hsp, hlow, hhigh, word_lo_hi, hbank] at hrtl
  refine ⟨t, _, hx, hrtl, ?_⟩
  rw [ht]

/-- R100: the call instructions. -/
theorem calls_cases {i : Instr} (h : i.mnemonic ∈ [.jsr, .jsl]) :
    ∃ aa al, i = .jsrPabs aa ∨ i = .jsrIabsx aa ∨ i = .jsl al := by
  cases i
  case jsrPabs aa => exact ⟨aa, 0, .inl rfl⟩
  case jsrIabsx aa => exact ⟨aa, 0, .inr (.inl rfl)⟩
  case jsl al => exact ⟨0, al, .inr (.inr rfl)⟩
  all_goals exact absurd h (of_decide_eq_false rfl)

/-- Settles O41: the return pulls the offset of the last byte of the call, one before the next instruction. -/
theorem returnUndoesTheCall : Obligations.ReturnUndoesTheCall := by
  unfold Obligations.ReturnUndoesTheCall
  intro i s hs hmn
  have hnext (n : Word) : s.pc + n + 1 = s.pc + (n + 1) := BitVec.add_assoc s.pc n 1
  obtain ⟨aa, al, hi⟩ := calls_cases hmn
  obtain ⟨-, -, -, hjsr, hjsrx, hjsl⟩ := callsPushTheReturnOffset aa al s
  rcases hi with rfl | rfl | rfl
  · exact hnext 2 ▸ rts_after_call hs hjsr
  · exact hnext 2 ▸ rts_after_call hs hjsrx
  · exact hnext 3 ▸ rtl_after_call hs hjsl

/-! ### Branches -/

/-- R258: what a branch leaves, its base count known. -/
theorem branchWith_eq {op : Byte} (hop : baseCycles op = 2) (taken : Bool) (disp : Byte) (s : State) :
    chargeCycles (branchWith op taken (modeRel8 disp s) s) = .next
      { s with
        pc := if taken then BitVec.ofNat 16 (branchTarget s disp) else s.pc + 2
        cyc := s.cyc + BitVec.ofInt 64 (if taken then 2 + takenCycles s disp else 2) } := by
  have hpc : BitVec.ofNat 16 (branchTarget s disp) = (modeRel8 disp s).operand := by
    rw [← branchTarget_eq, BitVec.ofNat_toNat, BitVec.setWidth_eq]
    rfl
  have hadj : (2 : Nat) + (modeRel8 disp s).adj = 2 := rfl
  cases taken
  · rw [branchWith, if_neg Bool.false_ne_true, chargeCycles_complete, hop, hadj]
    rfl
  · rw [branchWith, if_pos rfl, chargeCycles_complete, hop, hadj, takenPen_eq, hpc]
    rfl

/-- Settles O42: each row is `Branch` with its condition, and its base count is 2. -/
theorem branches : Obligations.Branches := by
  unfold Obligations.Branches
  intro disp s row hrow
  have hbranch : encode row.2.1 = [row.1, disp] ∧ baseCycles row.1 = 2 ∧
      exec row.2.1 s = chargeCycles (branchWith row.1 row.2.2 (modeRel8 disp s) s) := by
    simp only [List.mem_cons, List.not_mem_nil, or_false] at hrow
    rcases hrow with rfl | rfl | rfl | rfl | rfl | rfl | rfl | rfl | rfl <;> dsimp only <;> exact ⟨rfl, rfl, rfl⟩
  obtain ⟨henc, hop, hx⟩ := hbranch
  exact ⟨henc, hx.trans (branchWith_eq hop row.2.2 disp s)⟩

/-- Settles O43: the sum modulo the bank is that of the words. -/
theorem branchLong : Obligations.BranchLong := by
  unfold Obligations.BranchLong
  intro disp s
  have hpc : BitVec.ofNat 16 ((s.pc.toNat + 3 + disp.toNat) % 0x10000) = s.pc + 3 + disp := by
    apply BitVec.eq_of_toNat_eq
    simp
  rw [hpc]
  exact ⟨rfl, rfl⟩

/-! ### Software interrupts -/

/-- R269, R387: what a software interrupt pushes. -/
theorem takeTrap_pushes (s : State) (vecN vecE : Addr) (ret : Word) :
    Pushes ((if s.e then [] else [s.pbr]) ++ [hi ret, lo ret, s.p]) s (s.takeTrap vecN vecE ret) := by
  rw [takeTrap_eq_setPc, beforeVector, beforeStatus]
  cases s.e
  · exact pushes_of_eq (by simp) rfl rfl
  · exact pushes_of_eq (by simp) rfl rfl

/-- R387: `PC` after a software interrupt: the vector as the pushes left it. -/
theorem takeTrap_pc (s : State) (vecN vecE : Addr) (ret : Word) :
    (s.takeTrap vecN vecE ret).pc =
      word ((s.takeTrap vecN vecE ret).readMem (addr 0x00 (offOf (if s.e then vecE else vecN))))
        ((s.takeTrap vecN vecE ret).readMem (addr 0x00 (offOf (if s.e then vecE else vecN) + 1))) :=
  readBank_two (beforeVector s ret) 0x00 _

/-- R387: the status byte after a software interrupt: i set, d cleared, the other flags as they were. -/
theorem trap_flags (s : State) {t : State} (hp : t.p = putFlag (putFlag s.p maskI true) maskD false) :
    t.flagI = true ∧ t.flagD = false ∧ Keeps 0xF3 s t := by
  refine ⟨?_, ?_, ?_⟩
  · rw [State.flagI, hp, putFlag_getLsbD, putFlag_getLsbD]
    rfl
  · rw [State.flagD, hp, putFlag_getLsbD]
    rfl
  · rw [Keeps, hp, putFlag_and_of_disjoint _ _ _ _ (by decide), putFlag_and_of_disjoint _ _ _ _ (by decide)]

/-- R269, R270: the count of BRK and COP. -/
theorem trap_cycles {op : Byte} (hop : baseCycles op = 7) (sig : Byte) (s : State) :
    BitVec.ofInt 64 (baseCycles op + (modeSig sig).adj + nativePen s) = if s.e then 7 else 8 := by
  rw [hop, nativePen]
  cases s.e <;> rfl

/-- R269, R270, R387: an instruction that takes a software interrupt. -/
theorem trap_leaves {op : Byte} {vecN vecE : Addr} (hop : baseCycles op = 7) (hN : InBankZero vecN)
    (hE : InBankZero vecE) (sig : Byte) (s : State) :
    ∃ t, chargeCycles (trapWith op vecN vecE (modeSig sig) s) = .next t ∧
      (let vec := if s.e then vecE else vecN
       t = { s with
         sp := t.sp
         mem := t.mem
         p := t.p
         pbr := 0x00
         pc := word (t.readMem vec) (t.readMem (vec + 1))
         cyc := s.cyc + if s.e then 7 else 8 }) ∧
      Pushes ((if s.e then [] else [s.pbr]) ++ [hi (s.pc + 2), lo (s.pc + 2), s.p]) s t ∧
      t.flagI = true ∧ t.flagD = false ∧ Keeps 0xF3 s t := by
  have hvec : InBankZero (if s.e then vecE else vecN) := by
    split
    · exact hE
    · exact hN
  obtain ⟨hlow, hhigh⟩ := hvec
  have hpush : Pushes ((if s.e then [] else [s.pbr]) ++ [hi (s.pc + 2), lo (s.pc + 2), s.p]) s _ :=
    takeTrap_pushes (s.advance (modeSig sig).len) vecN vecE (s.pc + 2)
  have hpc := takeTrap_pc (s.advance (modeSig sig).len) vecN vecE (s.pc + 2)
  have hframe := takeTrap_frame (s.advance (modeSig sig).len) vecN vecE (s.pc + 2)
  rw [State.advance_e, hlow, hhigh] at hpc
  rw [hpc] at hframe
  rw [trapWith, chargeCycles_complete, trap_cycles hop]
  generalize (s.advance (modeSig sig).len).takeTrap vecN vecE (s.pc + 2) = u at *
  refine ⟨_, rfl, ?_, hpush, trap_flags s ?_⟩
  · rw [hframe]
    rfl
  · rw [hframe]
    rfl

/-- Settles O44: both are `trap_leaves` with their vectors; at other parameters the vector is that of the parameters. -/
theorem softwareInterruptEntry : Obligations.SoftwareInterruptEntry := by
  unfold Obligations.SoftwareInterruptEntry
  refine fun sig s => ⟨fun row hrow => ?_, fun P row hrow => ?_⟩
  · rcases List.mem_pair.mp hrow with rfl | rfl
    · exact ⟨rfl, trap_leaves (op := 0x00) rfl ⟨rfl, rfl⟩ ⟨rfl, rfl⟩ sig s⟩
    · exact ⟨rfl, trap_leaves (op := 0x02) rfl ⟨rfl, rfl⟩ ⟨rfl, rfl⟩ sig s⟩
  · rcases List.mem_pair.mp hrow with rfl | rfl
    · exact ⟨_, _, rfl, rfl, takeTrap_pc (s.advance 2) P.vecBrkN P.vecBrkE (s.pc + 2)⟩
    · exact ⟨_, _, rfl, rfl, takeTrap_pc (s.advance 2) P.vecCopN P.vecCopE (s.pc + 2)⟩

/-! ### The return from a software interrupt -/

/-- R33, R389: `SetP` of the pulled byte leaves the stack pointer of the pull. -/
theorem setP_pull8 (s : State) (v : Byte) :
    s.pull8.2.setP v = { s with
      p := forceWidths s.e v
      sp := inPage s.e (s.sp + 1)
      x := if (forceWidths s.e v).getLsbD 4 then word (lo s.x) 0x00 else s.x
      y := if (forceWidths s.e v).getLsbD 4 then word (lo s.y) 0x00 else s.y } := by
  rw [setP_eq, pull8_eq]
  cases s.e
  · simp [inPage]
  · simp [inPage, pageOne]

/-- R257, R389: what RTI leaves, its cycles apart. -/
theorem returnFromTrap_eq (s : State) :
    s.returnFromTrap = { s with
      p := forceWidths s.e (pulled s 0)
      x := if (forceWidths s.e (pulled s 0)).getLsbD 4 then word (lo s.x) 0x00 else s.x
      y := if (forceWidths s.e (pulled s 0)).getLsbD 4 then word (lo s.y) 0x00 else s.y
      sp := spUp s.e (if s.e then 3 else 4) s.sp
      pc := word (pulled s 1) (pulled s 2)
      pbr := if s.e then s.pbr else pulled s 3 } := by
  have hp : s.pull8.1 = pulled s 0 := rfl
  rw [State.returnFromTrap, setP_pull8, hp, pull16_eq, pull8_eq, pull8_eq]
  unfold pulled
  cases s.e
  · rw [if_neg Bool.false_ne_true, pull8_eq, State.setPc]
    rfl
  · rw [if_pos rfl, State.setPc]
    rfl

/-- R257: the count of RTI. -/
theorem rti_cycles (s : State) :
    BitVec.ofInt 64 (baseCycles 0x40 + modeImp.adj + nativePen s) = if s.e then 6 else 7 := by
  unfold nativePen
  cases s.e <;> rfl

/-- R32: the forced status byte in the words of the statements. -/
theorem forceWidths_eq (e : Bool) (p : Byte) : forceWidths e p = if e then p ||| 0x30 else p := by
  rw [forceWidths, BitVec.or_assoc]
  rfl

/-- Settles O45: RTI is the return from a software interrupt with its cycles. -/
theorem returnFromInterrupt : Obligations.ReturnFromInterrupt := by
  unfold Obligations.ReturnFromInterrupt
  refine fun s => ⟨rfl, ?_⟩
  have hx : exec .rti s = chargeCycles (complete 0x40 modeImp.adj (nativePen s) (s.advance 1).returnFromTrap) := rfl
  rw [hx, chargeCycles_complete, rti_cycles, returnFromTrap_eq]
  dsimp only
  rw [← forceWidths_eq]
  rfl

/-- R100: the instructions that take a software interrupt. -/
theorem traps_cases {i : Instr} (h : i.mnemonic ∈ [.brk, .cop]) : ∃ sig, i = .brk sig ∨ i = .cop sig := by
  refine (pushers_of_status (List.mem_cons_of_mem _ h)).resolve_left ?_
  rintro rfl
  exact absurd h (by decide)

/-- R32: under invariant IE the widths of the status byte are forced already. -/
theorem forceWidths_of_invIE {s : State} (h : InvIE s) : forceWidths s.e s.p = s.p := by
  apply BitVec.eq_of_getLsbD_eq
  intro j _
  rw [forceWidths_getLsbD]
  cases he : s.e
  · rw [Bool.false_and, Bool.or_false]
  · obtain ⟨hm, hx⟩ := h he
    have hbits : (0x30 : Byte).getLsbD j = true → j = 5 ∨ j = 4 := by
      revert j
      decide
    cases hj : (0x30 : Byte).getLsbD j
    · rw [Bool.and_false, Bool.or_false]
    · rcases hbits hj with rfl | rfl
      · rw [← State.flagM, hm, Bool.true_or]
      · rw [← State.flagX, hx, Bool.true_or]

/-- R24: under invariant IX the high byte of an index register is cleared already where x is 1. -/
theorem clearHigh_of_invIX {x : Bool} {v : Word} (h : x = true → hi v = 0x00) :
    (if x then word (lo v) 0x00 else v) = v := by
  split
  · rw [← h ‹_›, word_lo_hi]
  · rfl

/-- R257, R269: what RTI pulls right after a software interrupt: `P`, the offset, in native mode the bank; the stack pointer is
back. -/
theorem pulls_of_trap {s t : State} {ret : Word} (he : t.e = s.e) (hs : InvIS s)
    (h : Pushes ((if s.e then [] else [s.pbr]) ++ [hi ret, lo ret, s.p]) s t) :
    spUp t.e (if t.e then 3 else 4) t.sp = s.sp ∧ pulled t 0 = s.p ∧ word (pulled t 1) (pulled t 2) = ret ∧
      (if t.e then 0x00 else pulled t 3) = if s.e then 0x00 else s.pbr := by
  have hsp := spUp_of_pushes h he hs
  have hpull {j k : Nat} := pulled_of_pushes h he hs (j := j) (k := k)
  cases hes : s.e <;> rw [hes] at he hsp hpull <;> rw [he] at hsp ⊢
  · have hlow : pulled t 1 = lo ret := hpull (j := 2) rfl
    have hhigh : pulled t 2 = hi ret := hpull (j := 1) rfl
    exact ⟨hsp, hpull (j := 3) rfl, by rw [hlow, hhigh, word_lo_hi], hpull (j := 0) rfl⟩
  · have hlow : pulled t 1 = lo ret := hpull (j := 1) rfl
    have hhigh : pulled t 2 = hi ret := hpull (j := 0) rfl
    exact ⟨hsp, hpull (j := 2) rfl, by rw [hlow, hhigh, word_lo_hi], rfl⟩

/-- R257, R269, R270: RTI after a software interrupt that pushed the offset `ret`. -/
theorem rti_after_trap {s t : State} {ret : Word} (hs : Inv s)
    (ht : t = { s with sp := t.sp, mem := t.mem, p := t.p, pbr := 0x00, pc := t.pc, cyc := t.cyc })
    (h : Pushes ((if s.e then [] else [s.pbr]) ++ [hi ret, lo ret, s.p]) s t) :
    ∃ u, exec .rti t = .next u ∧
      u = { s with pc := ret, pbr := if s.e then 0x00 else s.pbr, mem := t.mem, cyc := u.cyc } := by
  obtain ⟨hix, his, hie, -⟩ := hs
  obtain ⟨-, hrti⟩ := returnFromInterrupt t
  have he : t.e = s.e := by rw [ht]
  have hx : t.x = s.x := by rw [ht]
  have hy : t.y = s.y := by rw [ht]
  have hpbr : t.pbr = 0x00 := by rw [ht]
  have hclearX := clearHigh_of_invIX (x := s.p.getLsbD 4) (v := s.x) fun h => (hix h).1
  have hclearY := clearHigh_of_invIX (x := s.p.getLsbD 4) (v := s.y) fun h => (hix h).2
  obtain ⟨hsp, hstatus, hpc, hbank⟩ := pulls_of_trap he his h
  dsimp only at hrti
  rw [hsp, hstatus, hpc, hpbr, hbank, he, hx, hy, ← forceWidths_eq, forceWidths_of_invIE hie, hclearX, hclearY] at hrti
  refine ⟨_, hrti, ?_⟩
  rw [ht]

/-- Settles O46: RTI pulls the frame that BRK or COP pushed, and the invariants make `SetP` of the old status byte no change. -/
theorem rtiUndoesTheTrap : Obligations.RtiUndoesTheTrap := by
  unfold Obligations.RtiUndoesTheTrap
  intro i s hs hmn
  obtain ⟨sig, hcases⟩ := traps_cases hmn
  obtain ⟨hentry, -⟩ := softwareInterruptEntry sig s
  rcases hcases with rfl | rfl
  · obtain ⟨-, t, hx, ht, hp, -⟩ := hentry _ List.mem_cons_self
    obtain ⟨u, hu, hback⟩ := rti_after_trap hs (by rw [ht]) hp
    exact ⟨t, u, hx, hu, hback⟩
  · obtain ⟨-, t, hx, ht, hp, -⟩ := hentry _ (List.mem_cons_of_mem _ List.mem_cons_self)
    obtain ⟨u, hu, hback⟩ := rti_after_trap hs (by rw [ht]) hp
    exact ⟨t, u, hx, hu, hback⟩

end Sys2Proof.Machine

/-! PROOFS. The stack instructions (R290 to R306): an instruction that pushes is a list of pushes past itself, one that pulls
is the pull of a value at a width into its register, with n and z. -/

namespace Sys2Proof.Machine

open Sys2Proof.Claims

/-! ### Cycles -/

section Cycles

variable {i : Instr} {op : Byte} (hop : i.opcode = op)

include hop

/-- R364, R425: the count of an instruction with no penalty class. -/
theorem cycles_eq_base (hpen : penOf op = []) (s : State) : cycles i s = baseCycles op + 0 + 0 := by
  subst hop
  rw [cycles, baseOf_eq, hpen]
  rfl

/-- R365, R425: the count of an instruction with one penalty class, which its mode or its operator charges. -/
theorem cycles_eq_of_charge {s : State} {p : Pen} {adj extra : Int} (hpen : penOf op = [p])
    (hcharge : adj + extra = charge i s p) : cycles i s = baseCycles op + adj + extra := by
  subst hop
  rw [cycles, baseOf_eq, hpen, List.map_singleton, List.sum_singleton, ← hcharge, Int.add_assoc]

/-- R365: the count of an instruction that its operator alone charges, for the width of a flag. -/
theorem cycles_eq_widthPen {s : State} {p : Pen} {f : Bool} (hpen : penOf op = [p]) (hcharge : widthPen f = charge i s p) :
    cycles i s = baseCycles op + 0 + widthPen f :=
  cycles_eq_of_charge hop hpen ((Int.zero_add _).trans hcharge)

end Cycles

/-! ### Instructions that push -/

/-- R68: pushes change the stack pointer and memory alone. -/
theorem performAll_push_frame (bytes : List Byte) (s : State) :
    performAll (bytes.map .push) s =
      { s with sp := (performAll (bytes.map .push) s).sp, mem := (performAll (bytes.map .push) s).mem } := by
  induction bytes generalizing s with
  | nil => rfl
  | cons b bs ih => exact ih (s.push8 b)

/-- R290, R364: what an instruction leaves that pushes bytes past itself and completes. -/
theorem pushing_leaves {i : Instr} {op : Byte} {s : State} {bytes : List Byte} {adj extra : Int}
    (hlen : bytes.length ≤ 0x100) (hcyc : cycles i s = baseCycles op + adj + extra)
    (hx : exec i s = chargeCycles (complete op adj extra (performAll (bytes.map .push) (s.advance i.length)))) :
    ∃ t, exec i s = .next t ∧ t = { passed i s with sp := t.sp, mem := t.mem } ∧ Pushes bytes s t := by
  have hpush := pushes_performAll hlen (s.advance i.length)
  have hframe := performAll_push_frame bytes (s.advance i.length)
  rw [chargeCycles_complete, ← hcyc] at hx
  generalize performAll (bytes.map .push) (s.advance i.length) = u at *
  refine ⟨_, hx, ?_, hpush⟩
  rw [hframe]
  rfl

/-- R290: the pushes of a value at the width of a flag, the high byte first. -/
theorem pushW_ofFlag (s : State) (f : Bool) (v : Word) :
    s.pushW (.ofFlag f) v = performAll ((if f then [lo v] else [hi v, lo v]).map .push) s := by
  cases f <;> rfl

/-- R290: what an instruction leaves that pushes a register at the width of a flag. -/
theorem pushW_leaves {i : Instr} {op : Byte} {s : State} {f : Bool} {v : Word}
    (hcyc : cycles i s = baseCycles op + 0 + widthPen f)
    (hx : exec i s = chargeCycles (complete op 0 (widthPen f) ((s.advance i.length).pushW (.ofFlag f) v))) :
    ∃ t, exec i s = .next t ∧ t = { passed i s with sp := t.sp, mem := t.mem } ∧
      Pushes (if f then [lo v] else [hi v, lo v]) s t := by
  rw [pushW_ofFlag] at hx
  exact pushing_leaves (by cases f <;> simp) hcyc hx

/-- Settles O47: three rows push their register at the width of a flag, the others as many bytes in every state. -/
theorem pushesOfRegisters : Obligations.PushesOfRegisters := by
  unfold Obligations.PushesOfRegisters
  intro s row hrow
  simp only [List.mem_cons, List.not_mem_nil, or_false] at hrow
  rcases hrow with rfl | rfl | rfl | rfl | rfl | rfl | rfl
  · exact ⟨rfl, pushW_leaves (cycles_eq_widthPen (op := 0x48) (p := .m1) rfl rfl rfl) rfl⟩
  · exact ⟨rfl, pushW_leaves (cycles_eq_widthPen (op := 0xDA) (p := .x1) rfl rfl rfl) rfl⟩
  · exact ⟨rfl, pushW_leaves (cycles_eq_widthPen (op := 0x5A) (p := .x1) rfl rfl rfl) rfl⟩
  · exact ⟨rfl, pushing_leaves (by simp) (cycles_eq_base (op := 0x08) rfl rfl s) rfl⟩
  · exact ⟨rfl, pushing_leaves (by simp) (cycles_eq_base (op := 0x8B) rfl rfl s) rfl⟩
  · exact ⟨rfl, pushing_leaves (by simp) (cycles_eq_base (op := 0x0B) rfl rfl s) rfl⟩
  · exact ⟨rfl, pushing_leaves (by simp) (cycles_eq_base (op := 0x4B) rfl rfl s) rfl⟩

/-! ### Effective addresses -/

theorem hi_eq_ofNat (v : Word) : hi v = BitVec.ofNat 8 (v.toNat / 0x100) := by
  rw [← hi_toNat, BitVec.ofNat_toNat, BitVec.setWidth_eq]

/-- R304 to R306: what an instruction leaves that pushes the word its mode formed, given as the number `n`. -/
theorem pushEffective_leaves {i : Instr} {op : Byte} {f : Formed Word} {s : State} {n : Nat} (hn : f.operand.toNat = n)
    (hlen : f.len = i.length) (hcyc : cycles i s = baseCycles op + f.adj + 0)
    (hx : exec i s = chargeCycles (pushEffective op f s)) :
    ∃ t, exec i s = .next t ∧ t = { passed i s with sp := t.sp, mem := t.mem } ∧
      Pushes [BitVec.ofNat 8 (n / 0x100), BitVec.ofNat 8 n] s t := by
  rw [← hn, ← hi_eq_ofNat]
  rw [pushEffective, hlen] at hx
  exact pushing_leaves (bytes := [hi f.operand, lo f.operand]) (by simp) hcyc hx

/-- Settles O48: the word of each mode as a number; PEI alone has a penalty, that of its mode. -/
theorem pushesOfEffectiveAddresses : Obligations.PushesOfEffectiveAddresses := by
  unfold Obligations.PushesOfEffectiveAddresses
  refine fun v dd s => ⟨rfl, rfl, rfl, fun row hrow => ?_⟩
  simp only [List.mem_cons, List.not_mem_nil, or_false] at hrow
  rcases hrow with rfl | rfl | rfl
  · exact pushEffective_leaves (f := modeImm16 v) rfl rfl (cycles_eq_base (op := 0xF4) rfl rfl s) rfl
  · exact pushEffective_leaves (f := modeIdpPointer dd s) (ptrDpN16_toNat s dd.toNat) rfl
      (cycles_eq_of_charge (op := 0xD4) (p := .dl) rfl rfl ((Int.add_zero _).trans (dlPen_eq s))) rfl
  · have htarget : (s.pc + 3 + v).toNat = (s.pc.toNat + 3 + v.toNat) % 0x10000 := by simp
    exact pushEffective_leaves (f := modeRel16 v s) htarget rfl (cycles_eq_base (op := 0x62) rfl rfl s) rfl

/-! ### Instructions that pull -/

/-- R69, R298: the number that a pull at the width of the flag `f` gives, low byte first. -/
def pulledValue (s : State) (f : Bool) : Nat := (pulled s 0).toNat + if f then 0 else 0x100 * (pulled s 1).toNat

section Pulls

variable (s : State) (f : Bool)

theorem pullW_value : (s.pullW (.ofFlag f)).1.toNat = pulledValue s f := by
  cases f
  · exact word_toNat _ _
  · exact word_toNat _ _

theorem pullW_state : (s.pullW (.ofFlag f)).2 = { s with sp := spUp s.e (if f then 1 else 2) s.sp } := by
  cases f <;> rfl

theorem pulledValue_mod_size : pulledValue s f % size f = pulledValue s f := by
  apply Nat.mod_eq_of_lt
  have := (pulled s 0).isLt
  have := (pulled s 1).isLt
  unfold pulledValue size
  split <;> omega

/-- R35: an index register takes the value pulled at its width as it is. -/
theorem truncTo_pullW : (truncTo (.ofFlag f) (s.pullW (.ofFlag f)).1).toNat = pulledValue s f := by
  rw [truncTo_toNat, ← size_eq, pullW_value, pulledValue_mod_size]

/-- R11, R298: n and z of the value pulled. -/
theorem setNZ_setsPulled (t : State) : SetsNZ (t.setNZ (.ofFlag f) (s.pullW (.ofFlag f)).1) f (pulledValue s f) := by
  have h := setNZ_sets t f (s.pullW (.ofFlag f)).1
  rw [pullW_value, pulledValue_mod_size] at h
  exact h

/-- R36, R298: the accumulator after it took the value pulled. -/
theorem setA_pullW : (s.setA s.wM (s.pullW s.wM).1).c.toNat = putAcc s (pulledValue s s.flagM) := by
  have hvalue : (s.pullW s.wM).1.toNat % size s.flagM = pulledValue s s.flagM := by
    rw [State.wM, pullW_value, pulledValue_mod_size]
  exact hvalue ▸ setA_putAcc s _

end Pulls

/-- R364: an instruction with no operand completes past itself with its count. -/
theorem stacked_eq {i : Instr} {op : Byte} {s : State} {extra : Int} {g : State → State}
    (hcyc : cycles i s = baseCycles op + 0 + extra)
    (hx : exec i s = chargeCycles (stacked op modeImp extra g s)) :
    exec i s = .next ((g (s.advance 1)).addCycles (cycles i s)) := by
  rw [hcyc]
  exact hx

/-! #### The operators item by item -/

section Operators

variable (s : State)

/-- R298: PLA, its cycles apart. -/
theorem opPla_eq :
    opPla s = { s with
      c := (s.setA s.wM (s.pullW s.wM).1).c
      p := (s.setNZ s.wM (s.pullW s.wM).1).p
      sp := spUp s.e (if s.flagM then 1 else 2) s.sp } := by
  unfold opPla State.wM
  dsimp only
  rw [pullW_state]
  rfl

/-- R299: PLX, its cycles apart. -/
theorem opPlx_eq :
    opPlx s = { s with
      x := truncTo s.wX (s.pullW s.wX).1
      p := (s.setNZ s.wX (s.pullW s.wX).1).p
      sp := spUp s.e (if s.flagX then 1 else 2) s.sp } := by
  unfold opPlx State.wX
  dsimp only
  rw [pullW_state]
  rfl

/-- R300: PLY, its cycles apart. -/
theorem opPly_eq :
    opPly s = { s with
      y := truncTo s.wX (s.pullW s.wX).1
      p := (s.setNZ s.wX (s.pullW s.wX).1).p
      sp := spUp s.e (if s.flagX then 1 else 2) s.sp } := by
  unfold opPly State.wX
  dsimp only
  rw [pullW_state]
  rfl

/-- R302: PLB, its cycles apart. -/
theorem opPlb_eq :
    opPlb s = { s with
      dbr := pulled s 0
      p := (s.setNZ .w8 (s.pullW .w8).1).p
      sp := spUp s.e 1 s.sp } := rfl

/-- R303: PLD, its cycles apart. -/
theorem opPld_eq :
    opPld s = { s with
      d := word (pulled s 0) (pulled s 1)
      p := (s.setNZ .w16 (s.pullW .w16).1).p
      sp := spUp s.e 2 s.sp } := rfl

end Operators

/-- Settles O49: each register takes the value pulled through its setter, which keeps the stack pointer of the pull. -/
theorem pullsIntoRegisters : Obligations.PullsIntoRegisters := by
  unfold Obligations.PullsIntoRegisters
  intro s
  let u := s.advance 1
  have hpla : exec .pla s = .next ((opPla u).addCycles (cycles .pla s)) :=
    stacked_eq (cycles_eq_widthPen (op := 0x68) (p := .m1) rfl rfl rfl) rfl
  have hplx : exec .plx s = .next ((opPlx u).addCycles (cycles .plx s)) :=
    stacked_eq (cycles_eq_widthPen (op := 0xFA) (p := .x1) rfl rfl rfl) rfl
  have hply : exec .ply s = .next ((opPly u).addCycles (cycles .ply s)) :=
    stacked_eq (cycles_eq_widthPen (op := 0x7A) (p := .x1) rfl rfl rfl) rfl
  have hplb : exec .plb s = .next ((opPlb u).addCycles (cycles .plb s)) :=
    stacked_eq (cycles_eq_base (op := 0xAB) rfl rfl s) rfl
  have hpld : exec .pld s = .next ((opPld u).addCycles (cycles .pld s)) :=
    stacked_eq (cycles_eq_base (op := 0x2B) rfl rfl s) rfl
  rw [opPla_eq] at hpla
  rw [opPlx_eq] at hplx
  rw [opPly_eq] at hply
  rw [opPlb_eq] at hplb
  rw [opPld_eq] at hpld
  refine ⟨rfl, rfl, rfl, rfl, rfl, ?_, ?_, ?_, ?_, ?_⟩
  · exact ⟨_, hpla, rfl, setA_pullW u, setNZ_setsPulled u u.flagM u, setNZ_keeps u _ _⟩
  · exact ⟨_, hplx, rfl, truncTo_pullW u u.flagX, setNZ_setsPulled u u.flagX u, setNZ_keeps u _ _⟩
  · exact ⟨_, hply, rfl, truncTo_pullW u u.flagX, setNZ_setsPulled u u.flagX u, setNZ_keeps u _ _⟩
  · exact ⟨_, hplb, rfl, setNZ_setsPulled u true u, setNZ_keeps u _ _⟩
  · exact ⟨_, hpld, rfl, setNZ_setsPulled u false u, setNZ_keeps u _ _⟩

/-- Settles O50: PLP is `SetP` of the byte pulled, in its base count of 4. -/
theorem pullStatus : Obligations.PullStatus := by
  unfold Obligations.PullStatus
  refine fun s => ⟨rfl, ?_⟩
  have hx : exec .plp s = .next (State.addCycles (opPlp (s.advance 1)) 4) := rfl
  rw [hx, opPlp, setP_pull8, ← forceWidths_eq]
  rfl

end Sys2Proof.Machine

/-! PROOFS. The mode switch (R320 to R329): REP and SEP write the status byte through `SetP`, XCE exchanges c and `E` through
`SetE`, and the single-flag instructions write one bit of it. -/

namespace Sys2Proof.Machine

open Sys2Proof.Claims

/-! ### REP and SEP -/

/-- R320, R321: what REP or SEP leaves that makes the status byte `p`; the stack pointer is in its page already. -/
theorem statusWith_eq {op : Byte} {k p : Byte} {combine : Byte → Byte → Byte} {s : State} (hop : baseCycles op = 3)
    (hp : combine s.p k = p) (hs : InvIS s) :
    chargeCycles (statusWith op (modeImm8 k) combine s) = .next { s with
      p := forceWidths s.e p
      x := if (forceWidths s.e p).getLsbD 4 then word (lo s.x) 0x00 else s.x
      y := if (forceWidths s.e p).getLsbD 4 then word (lo s.y) 0x00 else s.y
      pc := s.pc + 2
      cyc := s.cyc + 3 } := by
  rw [statusWith, chargeCycles_complete, hop, ← hp, setP_eq]
  exact congrArg Host.Outcome.next (state_eq rfl rfl rfl (inPage_of_invIS hs) rfl rfl rfl rfl rfl rfl rfl rfl)

/-- Settles O51: both rows are `SetP` of their byte; clearing the bits of a mask is keeping those of its complement. -/
theorem repAndSep : Obligations.RepAndSep := by
  unfold Obligations.RepAndSep
  intro k s hs row hrow
  simp only [← forceWidths_eq]
  rcases List.mem_pair.mp hrow with rfl | rfl
  · have hclear : s.p &&& (k ^^^ 0xFF) = s.p &&& ~~~k := congrArg (s.p &&& ·) (BitVec.xor_allOnes (x := k))
    exact ⟨rfl, statusWith_eq (op := 0xC2) (combine := fun p mask => p &&& (mask ^^^ 0xFF)) rfl hclear hs⟩
  · exact ⟨rfl, statusWith_eq (op := 0xE2) (combine := fun p mask => p ||| mask) rfl rfl hs⟩

/-! ### XCE -/

/-- R322: the status byte that XCE leaves: c is the old `E`; m and x are forced where `E` is now 1. -/
theorem xceStatus_getLsbD (s : State) (j : Nat) :
    (forceWidths s.flagC (putFlag s.p maskC s.e)).getLsbD j =
      ((if maskC.getLsbD j then s.e else s.p.getLsbD j) || (s.flagC && (0x30 : Byte).getLsbD j)) := by
  rw [forceWidths_getLsbD, putFlag_getLsbD]

/-- R322: m and x after XCE. -/
theorem xceStatus_widths (s : State) :
    (forceWidths s.flagC (putFlag s.p maskC s.e)).getLsbD 5 = (s.flagM || s.flagC) ∧
      (forceWidths s.flagC (putFlag s.p maskC s.e)).getLsbD 4 = (s.flagX || s.flagC) := by
  rw [xceStatus_getLsbD, xceStatus_getLsbD]
  cases s.flagC <;> exact ⟨rfl, rfl⟩

/-- R24, R322: an index register after XCE: its high byte is cleared where `E` is now 1; where only x was 1, it was 0 before. -/
theorem xceIndex_eq {s : State} {v : Word} (h : s.flagX = true → hi v = 0x00) :
    (if (forceWidths s.flagC (putFlag s.p maskC s.e)).getLsbD 4 then word (lo v) 0x00 else v) =
      if s.flagC then word (lo v) 0x00 else v := by
  rw [(xceStatus_widths s).2]
  cases s.flagC
  · rw [Bool.or_false]
    exact clearHigh_of_invIX h
  · rw [Bool.or_true]

/-- Settles O52: XCE is `SetE` of the old c after c took the old `E`; invariant IX settles the index registers where it leaves
emulation mode. -/
theorem exchangeCarryAndEmulation : Obligations.ExchangeCarryAndEmulation := by
  unfold Obligations.ExchangeCarryAndEmulation
  intro s hs
  obtain ⟨hix, -, -, -⟩ := hs
  have hbit := xceStatus_getLsbD s
  obtain ⟨hm, hx⟩ := xceStatus_widths s
  refine ⟨rfl, _, rfl, ?_, rfl, keeps_iff.mpr fun j hj => ?_, ?_, ?_⟩
  · refine (hbit 0).trans ?_
    simp [maskC]
  · have hkept : ∀ j < 8, (0xCE : Byte).getLsbD j = true → maskC.getLsbD j = false ∧ (0x30 : Byte).getLsbD j = false := by
      decide
    obtain ⟨hc, hmx⟩ := hkept j (BitVec.lt_of_getLsbD hj) hj
    refine (hbit j).trans ?_
    rw [hc, hmx, Bool.and_false, Bool.or_false]
    rfl
  · exact state_eq rfl (xceIndex_eq fun h => (hix h).1) (xceIndex_eq fun h => (hix h).2) rfl rfl rfl rfl rfl rfl rfl rfl rfl
  · split
    case isTrue he =>
      have he : s.flagC = true := he
      exact ⟨hm.trans (by rw [he, Bool.or_true]), hx.trans (by rw [he, Bool.or_true])⟩
    case isFalse he =>
      have he : s.flagC = false := Bool.eq_false_of_not_eq_true he
      exact ⟨hm.trans (by rw [he, Bool.or_false]), hx.trans (by rw [he, Bool.or_false])⟩

/-! ### The single-flag instructions -/

/-- R323 to R329: what a single-flag instruction leaves whose mask is the bit `bit`. -/
theorem setFlag_leaves {op mask : Byte} {bit : Nat} {b : Bool} (hop : baseCycles op = 2)
    (hmask : ∀ j < 8, mask.getLsbD j = decide (j = bit)) (s : State) :
    ∃ t, chargeCycles (implied op modeImp (fun t => t.setFlag mask b) s) = .next t ∧
      t = { s with p := t.p, pc := s.pc + 1, cyc := s.cyc + 2 } ∧
      ∀ j, j < 8 → t.p.getLsbD j = if j = bit then b else s.p.getLsbD j := by
  rw [implied, stacked, chargeCycles_complete, hop]
  refine ⟨_, rfl, rfl, fun j hj => (putFlag_getLsbD s.p mask b j).trans ?_⟩
  rw [hmask j hj]
  simp only [decide_eq_true_eq]

/-- Settles O53: each row writes its one bit. -/
theorem singleFlagInstructions : Obligations.SingleFlagInstructions := by
  unfold Obligations.SingleFlagInstructions
  intro s row hrow
  simp only [List.mem_cons, List.not_mem_nil, or_false] at hrow
  rcases hrow with rfl | rfl | rfl | rfl | rfl | rfl | rfl
  · exact ⟨rfl, setFlag_leaves (op := 0x18) (mask := maskC) rfl (by decide) s⟩
  · exact ⟨rfl, setFlag_leaves (op := 0x38) (mask := maskC) rfl (by decide) s⟩
  · exact ⟨rfl, setFlag_leaves (op := 0xD8) (mask := maskD) rfl (by decide) s⟩
  · exact ⟨rfl, setFlag_leaves (op := 0xF8) (mask := maskD) rfl (by decide) s⟩
  · exact ⟨rfl, setFlag_leaves (op := 0x58) (mask := maskI) rfl (by decide) s⟩
  · exact ⟨rfl, setFlag_leaves (op := 0x78) (mask := maskI) rfl (by decide) s⟩
  · exact ⟨rfl, setFlag_leaves (op := 0xB8) (mask := maskV) rfl (by decide) s⟩

end Sys2Proof.Machine

/-! PROOFS. The block moves and the rest of 48_block_move_misc.md (R340 to R346): one execution moves one byte, and by induction
over the count the whole block; NOP and WDM do nothing, WAI and STP fail. -/

namespace Sys2Proof.Machine

open Sys2Proof.Claims

/-! ### One byte -/

/-- R340: what one execution of a block move leaves that steps its index registers by `k`. -/
structure MovesByte (dst src : Byte) (k : Nat) (s t : State) : Prop where
  frame : t = { s with
    c := s.c - 1
    x := t.x
    y := t.y
    dbr := dst
    pc := if s.c = 0 then s.pc + 3 else s.pc
    mem := t.mem
    cyc := s.cyc + 7 }
  x : t.x.toNat = (s.x.toNat + k) % size s.flagX
  y : t.y.toNat = (s.y.toNat + k) % size s.flagX
  moved : t.readMem (addr dst s.y) = s.readMem (addr src s.x)
  stores : OnlyStores [addr dst s.y] s t

/-- R42: the write of a byte at 8 bits. -/
theorem locWrite_byte (s : State) (bank b : Byte) (off : Word) :
    s.locWrite (.memBank bank off) .w8 (word b 0x00) = .ok (s.writeMem (addr bank off) b) := by
  have hlow : BitVec.ofNat 8 (word b 0x00).toNat = b := (BitVec.ofNat_toNat 8 _).trans (lo_word b 0x00)
  exact congrArg (fun v => Except.ok (s.writeMem (addr bank off) v)) hlow

/-- R340, R364: a block move completes with one byte written and its registers moved. -/
theorem moveWith_eq (op : Byte) (dir : Word) (dst src : Byte) (s : State) :
    moveWith op dir dst (modeMove dst src s) s =
      complete op 0 0 (afterMove dir dst s.pc ((s.advance 3).writeMem (addr dst s.y) (s.readMem (addr src s.x)))) := by
  have hread : s.locRead (modeMove dst src s).operand.1 .w8 = word (s.readMem (addr src s.x)) 0x00 :=
    readBytes_one s (addr src s.x)
  have hwrite := locWrite_byte (s.advance 3) dst (s.readMem (addr src s.x)) s.y
  rw [moveWith, hread]
  exact congrArg (fun r => completeWrite op 0 0 (r.map (afterMove dir dst s.pc))) hwrite

/-- R35, R340: an index register stepped at its width. -/
theorem truncTo_add_toNat (f : Bool) (v dir : Word) {k : Nat} (hk : dir.toNat % size f = k % size f) :
    (truncTo (.ofFlag f) (v + dir)).toNat = (v.toNat + k) % size f := by
  have hpow : size f ∣ 2 ^ 16 := by cases f <;> decide
  rw [truncTo_toNat, ← size_eq, BitVec.toNat_add, Nat.mod_mod_of_dvd _ hpow, Nat.add_mod, hk, ← Nat.add_mod]

/-- R340: a block move moves one byte, whichever way it steps. -/
theorem moveWith_movesByte {op : Byte} {dir : Word} {k : Nat} (hop : baseCycles op = 7) (dst src : Byte) (s : State)
    (hk : dir.toNat % size s.flagX = k % size s.flagX) :
    ∃ t, chargeCycles (moveWith op dir dst (modeMove dst src s) s) = .next t ∧ MovesByte dst src k s t := by
  rw [moveWith_eq, chargeCycles_complete, hop]
  refine ⟨_, rfl, rfl, truncTo_add_toNat s.flagX s.x dir hk, truncTo_add_toNat s.flagX s.y dir hk, ?_, fun a ha => ?_⟩
  · exact readMem_writeMem_same s (addr dst s.y) _
  · exact readMem_writeMem_other s _ (List.ne_of_not_mem_cons ha)

/-- R341, R342: MVN steps up, MVP down. -/
theorem exec_movesByte (dst src : Byte) (s : State) :
    (∃ t, exec (.mvn dst src) s = .next t ∧ MovesByte dst src 1 s t) ∧
      ∃ t, exec (.mvp dst src) s = .next t ∧ MovesByte dst src (size s.flagX - 1) s t :=
  ⟨moveWith_movesByte (op := 0x54) (dir := 1) rfl dst src s rfl,
    moveWith_movesByte (op := 0x44) rfl dst src s (negOne_mod_size s.flagX)⟩

/-- Settles O54: each row moves one byte. -/
theorem blockMoveStep : Obligations.BlockMoveStep := by
  unfold Obligations.BlockMoveStep
  intro dst src s row hrow
  obtain ⟨hmvn, hmvp⟩ := exec_movesByte dst src s
  rcases List.mem_pair.mp hrow with rfl | rfl
  · obtain ⟨t, hx, h⟩ := hmvn
    exact ⟨rfl, t, hx, h.frame, h.x, h.y, h.moved, h.stores⟩
  · obtain ⟨t, hx, h⟩ := hmvp
    exact ⟨rfl, t, hx, h.frame, h.x, h.y, h.moved, h.stores⟩

/-! ### An index register after some steps -/

/-- R340: an index register that held `r` after `j` steps by `k` at its width. -/
def stepped (f : Bool) (k : Nat) (r : Word) (j : Nat) : Word := BitVec.ofNat 16 ((r.toNat + j * k) % size f)

section Stepped

variable {f : Bool} {k : Nat} {r q : Word} {j : Nat}

theorem stepped_toNat : (stepped f k r j).toNat = (r.toNat + j * k) % size f := by
  have hsize : size f ≤ 2 ^ 16 := by cases f <;> decide
  exact (BitVec.toNat_ofNat _ _).trans (Nat.mod_eq_of_lt ((Nat.mod_lt _ (size_pos f)).trans_le hsize))

theorem stepped_zero (hr : r.toNat < size f) : stepped f k r 0 = r := by
  apply BitVec.eq_of_toNat_eq
  rw [stepped_toNat, Nat.zero_mul, Nat.add_zero, Nat.mod_eq_of_lt hr]

theorem eq_stepped_one (hq : q.toNat = (r.toNat + k) % size f) : q = stepped f k r 1 := by
  apply BitVec.eq_of_toNat_eq
  rw [stepped_toNat, Nat.one_mul, hq]

/-- One step more, taken first. -/
theorem stepped_succ (hq : q.toNat = (r.toNat + k) % size f) : stepped f k q j = stepped f k r (j + 1) := by
  apply BitVec.eq_of_toNat_eq
  rw [stepped_toNat, stepped_toNat, hq, Nat.mod_add_mod, Nat.succ_mul, Nat.add_assoc, Nat.add_comm k]

/-- Two index registers return to their first values after the same numbers of steps. -/
theorem stepped_return (hr : r.toNat < size f) (hq : q.toNat < size f) (h : stepped f k r j = r) : stepped f k q j = q := by
  have h := congrArg BitVec.toNat h
  apply BitVec.eq_of_toNat_eq
  rw [stepped_toNat] at h ⊢
  generalize j * k = m at *
  cases f
  · simp only [size, Bool.false_eq_true, if_false] at *
    omega
  · simp only [size, if_true] at *
    omega

/-- R24: an index register that meets invariant IX fits its width. -/
theorem index_lt_size (h : f = true → hi r = 0x00) : r.toNat < size f := by
  cases f
  · exact r.isLt
  · have hr := congrArg BitVec.toNat (h rfl)
    rw [hi_toNat] at hr
    exact Nat.lt_of_div_eq_zero (by decide) hr

end Stepped

/-! ### The whole block -/

/-- R340: what a block move of `n + 1` bytes leaves that steps its index registers by `k`. -/
structure MovesBlock (dst src : Byte) (k n : Nat) (s t : State) : Prop where
  frame : t = { s with
    c := 0xFFFF
    x := stepped s.flagX k s.x (n + 1)
    y := stepped s.flagX k s.y (n + 1)
    dbr := dst
    pc := s.pc + 3
    mem := t.mem
    cyc := s.cyc + BitVec.ofNat 64 (7 * (n + 1)) }
  stores : ∀ a, (∀ j ≤ n, a ≠ addr dst (stepped s.flagX k s.y j)) → t.readMem a = s.readMem a
  moved : dst ≠ src → ∀ j ≤ n,
    t.readMem (addr dst (stepped s.flagX k s.y j)) = s.readMem (addr src (stepped s.flagX k s.x j))

section Block

variable {dst src : Byte} {k n : Nat} {s u t : State}

theorem MovesByte.flagX (h : MovesByte dst src k s u) : u.flagX = s.flagX := by
  rw [h.frame]
  rfl

theorem MovesByte.stepped_x (h : MovesByte dst src k s u) (j : Nat) :
    stepped u.flagX k u.x j = stepped s.flagX k s.x (j + 1) := by
  rw [h.flagX]
  exact stepped_succ h.x

theorem MovesByte.stepped_y (h : MovesByte dst src k s u) (j : Nat) :
    stepped u.flagX k u.y j = stepped s.flagX k s.y (j + 1) := by
  rw [h.flagX]
  exact stepped_succ h.y

/-- R340: a move into another bank leaves the bytes of the source bank. -/
theorem MovesByte.readMem_src (h : MovesByte dst src k s u) (hne : dst ≠ src) (off : Word) :
    u.readMem (addr src off) = s.readMem (addr src off) :=
  h.stores _ fun ha => hne (addr_inj.mp (List.mem_singleton.mp ha)).1.symm

/-- R340: the last byte of a block: the count was 0. -/
theorem MovesByte.movesBlock (h : MovesByte dst src k s t) (hc : s.c = 0) (hx : s.x.toNat < size s.flagX)
    (hy : s.y.toNat < size s.flagX) : MovesBlock dst src k 0 s t := by
  refine ⟨?_, fun a ha => h.stores a ?_, fun _ j hj => ?_⟩
  · have hframe := h.frame
    rw [eq_stepped_one h.x, eq_stepped_one h.y, hc, if_pos rfl] at hframe
    exact hframe
  · have ha := ha 0 (Nat.le_refl 0)
    rw [stepped_zero hy] at ha
    exact mt List.mem_singleton.mp ha
  · rw [Nat.le_zero.mp hj, stepped_zero hx, stepped_zero hy]
    exact h.moved

/-- R340: a byte and then the block that is left: the bytes after the first one. -/
theorem MovesByte.trans_movesBlock (h : MovesByte dst src k s u) (hb : MovesBlock dst src k n u t) (hc : s.c ≠ 0)
    (hx : s.x.toNat < size s.flagX) (hy : s.y.toNat < size s.flagX) : MovesBlock dst src k (n + 1) s t := by
  refine ⟨?_, fun a ha => ?_, fun hne j hj => ?_⟩
  · have hcyc : s.cyc + 7 + BitVec.ofNat 64 (7 * (n + 1)) = s.cyc + BitVec.ofNat 64 (7 * (n + 1 + 1)) := by
      rw [BitVec.add_assoc, show 7 * (n + 1 + 1) = 7 + 7 * (n + 1) by omega, BitVec.ofNat_add]
      rfl
    have hframe := hb.frame
    rw [h.stepped_x, h.stepped_y, h.frame, if_neg hc] at hframe
    dsimp only at hframe
    rw [hcyc] at hframe
    exact hframe
  · have hfirst := ha 0 (Nat.zero_le _)
    rw [stepped_zero hy] at hfirst
    rw [hb.stores a fun j hj => h.stepped_y j ▸ ha (j + 1) (Nat.succ_le_succ hj), h.stores a (mt List.mem_singleton.mp hfirst)]
  · have hlater (i : Nat) (hi : i ≤ n) : t.readMem (addr dst (stepped s.flagX k s.y (i + 1))) =
        s.readMem (addr src (stepped s.flagX k s.x (i + 1))) := by
      rw [← h.stepped_y, ← h.stepped_x, hb.moved hne i hi, h.readMem_src hne]
    cases j with
    | succ i => exact hlater i (Nat.le_of_succ_le_succ hj)
    | zero =>
      rw [stepped_zero hx, stepped_zero hy]
      by_cases hagain : ∃ i ≤ n, s.y = stepped s.flagX k s.y (i + 1)
      · -- The index registers came round: the byte was written again, from the same source byte.
        obtain ⟨i, hi, hret⟩ := hagain
        have hsrc := stepped_return hy hx hret.symm
        have hread := hlater i hi
        rwa [← hret, hsrc] at hread
      · have hother : ∀ i ≤ n, addr dst s.y ≠ addr dst (stepped u.flagX k u.y i) := fun i hi ha =>
          hagain ⟨i, hi, (addr_inj.mp ha).2.trans (h.stepped_y i)⟩
        rw [hb.stores _ hother, h.moved]

/-- R340: an instruction that moves one byte in every state moves, executed for a count of `n`, a block of `n + 1` bytes. -/
theorem repeated_movesBlock {i : Instr} {f : Bool}
    (hstep : ∀ u : State, u.flagX = f → ∃ t, exec i u = .next t ∧ MovesByte dst src k u t) (hf : s.flagX = f)
    (hc : s.c.toNat = n) (hx : s.x.toNat < size f) (hy : s.y.toNat < size f) :
    ∃ t, repeated i (n + 1) s = some t ∧ MovesBlock dst src k n s t := by
  induction n generalizing s with
  | zero =>
    obtain ⟨t, ht, h⟩ := hstep s hf
    subst hf
    refine ⟨t, ?_, h.movesBlock (BitVec.eq_of_toNat_eq hc) hx hy⟩
    rw [repeated, ht]
    rfl
  | succ n ih =>
    obtain ⟨u, hu, h⟩ := hstep s hf
    subst hf
    have hcu : u.c.toNat = n := by
      rw [h.frame]
      show (s.c - 1).toNat = n
      bv_omega
    obtain ⟨t, ht, hb⟩ := ih h.flagX hcu (by rw [h.x]; exact Nat.mod_lt _ (size_pos _))
      (by rw [h.y]; exact Nat.mod_lt _ (size_pos _))
    refine ⟨t, ?_, h.trans_movesBlock hb (fun h0 => by rw [h0] at hc; cases hc) hx hy⟩
    rw [repeated, hu]
    exact ht

end Block

/-- Settles O55: the count is `C`; under invariant IX the index registers fit their width. -/
theorem blockMoveOfNPlusOneBytes : Obligations.BlockMoveOfNPlusOneBytes := by
  unfold Obligations.BlockMoveOfNPlusOneBytes
  intro dst src s hix row hrow
  have hx : s.x.toNat < size s.flagX := index_lt_size fun h => (hix h).1
  have hy : s.y.toNat < size s.flagX := index_lt_size fun h => (hix h).2
  have hblock : ∃ t, repeated row.1 (s.c.toNat + 1) s = some t ∧ MovesBlock dst src row.2 s.c.toNat s t := by
    rcases List.mem_pair.mp hrow with rfl | rfl
    · exact repeated_movesBlock (fun u _ => (exec_movesByte dst src u).1) rfl rfl hx hy
    · refine repeated_movesBlock (fun u hu => ?_) rfl rfl hx hy
      rw [← hu]
      exact (exec_movesByte dst src u).2
  obtain ⟨t, ht, h⟩ := hblock
  exact ⟨t, ht, h.frame, h.stores, h.moved⟩

/-! ### NOP, WDM, WAI, STP -/

/-- Settles O56: both complete past themselves, in their base count of 2. -/
theorem noOperations : Obligations.NoOperations := by
  unfold Obligations.NoOperations
  exact fun _ _ => ⟨rfl, rfl, rfl, rfl⟩

/-- Settles O8: neither has an operator, and both bytes are in every `UNIMPL`. -/
theorem waiAndStpFail : Obligations.WaiAndStpFail := by
  unfold Obligations.WaiAndStpFail
  refine ⟨fun _ => ⟨rfl, rfl, rfl, rfl⟩, fun P u op hop hfetch => ?_⟩
  have hop0 : u.view.fetch 0 = op := (fetch_zero u.view).trans hfetch
  rw [← hop0] at hop ⊢
  exact stepWith_unimplemented (Parameters.mem_unimpl hop)

end Sys2Proof.Machine

/-! PROOFS. The host (R410 to R418): what `reset` sets, the launch states, the runs after `reset`, and a loaded image. -/

namespace Sys2Proof.Machine

/-! ### Reset -/

/-- R410: `reset` item by item, at any parameters. -/
theorem hostReset_eq (s : State) (P : Parameters) :
    hostReset s P = { s with
      e := true
      p := (s.p ||| 0x34) &&& 0xF7
      sp := word (lo s.sp) 0x01
      x := word (lo s.x) 0x00
      y := word (lo s.y) 0x00
      d := 0x0000
      dbr := 0x00
      pbr := 0x00
      pc := word (s.readMem (addr 0x00 (offOf P.vecReset))) (s.readMem (addr 0x00 (offOf P.vecReset + 1)))
      cyc := 0 } := by
  obtain ⟨-, hx⟩ := forceWidths_widths s.p
  have hp : ∀ p : Byte, putFlag (putFlag (forceWidths true p) maskD false) maskI true = (p ||| 0x34) &&& 0xF7 := by decide
  exact state_eq rfl (if_pos hx) (if_pos hx) rfl rfl rfl rfl (readBank_two s 0x00 (offOf P.vecReset)) (hp s.p) rfl rfl rfl

/-- Settles O13: the parameters reach the vector alone. -/
theorem hostResetSetsTheListedState : Obligations.HostResetSetsTheListedState := by
  unfold Obligations.HostResetSetsTheListedState
  intro s
  refine ⟨hostReset_eq s .std, fun P => ?_⟩
  rw [hostReset_eq, hostReset_eq]

/-- R24, R25, R32, R410: `reset` establishes the invariants whatever the registers hold. -/
theorem inv_hostReset {s : State} (h : s.mem.wf = true) : Inv (hostReset s) := by
  have hE : Inv (s.setE true) := inv_normalize h
  have hcleared := (((hE.setFlag (k := maskD) false (by decide)).setFlag (k := maskI) true (by decide)).setD 0x0000).setDbr 0x00
  exact (hcleared.setPbr 0x00).congr rfl rfl rfl rfl rfl h

/-! ### Launch states -/

/-- R30: the status byte of eight flags. -/
def statusOf (n v m x d i z c : Bool) : Byte :=
  BitVec.ofBool n ++ BitVec.ofBool v ++ BitVec.ofBool m ++ BitVec.ofBool x ++ BitVec.ofBool d ++ BitVec.ofBool i
    ++ BitVec.ofBool z ++ BitVec.ofBool c

theorem Launch.status_eq (l : Launch) :
    l.status = statusOf l.n l.v l.mode.m l.mode.xFlag l.decimal l.i l.z l.carry := rfl

theorem statusOf_widths : ∀ n v m x d i z c : Bool,
    (statusOf n v m x d i z c).getLsbD 5 = m ∧ (statusOf n v m x d i z c).getLsbD 4 = x := by decide

/-- R30: the status byte of the flags of a state. -/
theorem statusOf_flags (s : State) :
    statusOf s.flagN s.flagV s.flagM s.flagX s.flagD s.flagI s.flagZ s.flagC = s.p := by
  have hbits : ∀ p : Byte, statusOf (p.getLsbD 7) (p.getLsbD 6) (p.getLsbD 5) (p.getLsbD 4) (p.getLsbD 3) (p.getLsbD 2)
      (p.getLsbD 1) (p.getLsbD 0) = p := by decide
  exact hbits s.p

/-- R413: a launch state meets the invariants, mode by mode. -/
theorem Launch.inv_state (l : Launch) : Inv l.state := by
  obtain ⟨hm, hx⟩ := statusOf_widths l.n l.v l.mode.m l.mode.xFlag l.decimal l.i l.z l.carry
  rw [← l.status_eq] at hm hx
  have hix : l.mode.xFlag = true → hi l.mode.x = 0x00 ∧ hi l.mode.y = 0x00 := by
    cases l.mode with
    | emulation xl yl _ => exact fun _ => ⟨hi_word xl 0x00, hi_word yl 0x00⟩
    | native8 _ xl yl _ => exact fun _ => ⟨hi_word xl 0x00, hi_word yl 0x00⟩
    | native16 => exact fun h => nomatch h
  have hemulation : l.mode.e = true → hi l.mode.sp = 0x01 ∧ l.mode.m = true ∧ l.mode.xFlag = true := by
    cases l.mode with
    | emulation _ _ sl => exact fun _ => ⟨hi_word sl 0x01, rfl, rfl⟩
    | native8 => exact fun h => nomatch h
    | native16 => exact fun h => nomatch h
  refine ⟨fun h => hix (hx ▸ h), fun h => (hemulation h).1, fun h => ?_, launchMemory_wf l.cells⟩
  obtain ⟨-, hm1, hx1⟩ := hemulation h
  exact ⟨hm.trans hm1, hx.trans hx1⟩

/-- A canonical memory lists no cell below the address it starts from. -/
theorem le_of_mem_wfFrom {n : Nat} {m : Memory} (h : Memory.wfFrom n m = true) {cell : Host.Cell} (hc : cell ∈ m) :
    n ≤ cell.1 := by
  induction m generalizing n with
  | nil => cases hc
  | cons first rest ih =>
    obtain ⟨a, v⟩ := first
    simp only [Memory.wfFrom, Bool.and_eq_true, decide_eq_true_eq] at h
    obtain ⟨⟨⟨hn, -⟩, -⟩, hrest⟩ := h
    rcases List.mem_cons.mp hc with rfl | hc
    · exact hn
    · exact hn.trans ((Nat.le_succ a).trans (ih hrest hc))

/-- A write below every cell of a canonical memory puts its cell first. -/
theorem memWrite_below {a : Nat} {v : Byte} {m : Memory} (h : Memory.wfFrom (a + 1) m = true) (hv : v ≠ Config.memInit) :
    memWrite m a v = (a, v) :: m := by
  have herase : memErase m a = m :=
    List.filter_eq_self.mpr fun cell hc => decide_eq_true (Nat.ne_of_gt (le_of_mem_wfFrom h hc))
  rw [memWrite, if_neg hv, herase]
  cases m with
  | nil => rfl
  | cons cell rest => exact if_pos (le_of_mem_wfFrom h List.mem_cons_self)

/-- The cells of a memory, each with its address. -/
def cellsOf (m : Memory) : List (Addr × Byte) := m.map fun cell => (BitVec.ofNat 24 cell.1, cell.2)

/-- The cells of a canonical memory give that memory back. -/
theorem launchMemory_cellsOf {n : Nat} {m : Memory} (h : Memory.wfFrom n m = true) : launchMemory (cellsOf m) = m := by
  induction m generalizing n with
  | nil => rfl
  | cons cell rest ih =>
    obtain ⟨a, v⟩ := cell
    simp only [Memory.wfFrom, Bool.and_eq_true, decide_eq_true_eq] at h
    obtain ⟨⟨⟨-, ha⟩, hv⟩, hrest⟩ := h
    have haddr : (BitVec.ofNat 24 a).toNat = a := (BitVec.toNat_ofNat a 24).trans (Nat.mod_eq_of_lt ha)
    show memWrite (launchMemory (cellsOf rest)) (BitVec.ofNat 24 a).toNat v = _
    rw [ih hrest, haddr, memWrite_below hrest hv]

/-- R413: the launch mode of a state, by `E` and x. -/
def State.launchMode (s : State) : LaunchMode :=
  if s.e then .emulation (lo s.x) (lo s.y) (lo s.sp)
  else if s.flagX then .native8 s.flagM (lo s.x) (lo s.y) s.sp
  else .native16 s.flagM s.x s.y s.sp

/-- R413: the launch of a state. -/
def State.launch (s : State) : Launch where
  c := s.c
  mode := s.launchMode
  d := s.d
  dbr := s.dbr
  pbr := s.pbr
  pc := s.pc
  n := s.flagN
  v := s.flagV
  decimal := s.flagD
  i := s.flagI
  z := s.flagZ
  carry := s.flagC
  cells := cellsOf s.mem
  cyc := s.cyc.toNat

/-- R24: a word with a high byte that is known. -/
theorem word_lo_of_hi {v : Word} {b : Byte} (h : hi v = b) : word (lo v) b = v := by rw [← h, word_lo_hi]

/-- R24, R25, R32: under the invariants the mode of a state loses nothing of it. -/
theorem launchMode_eq {s : State} (h : Inv s) :
    s.launchMode.e = s.e ∧ s.launchMode.m = s.flagM ∧ s.launchMode.xFlag = s.flagX ∧ s.launchMode.x = s.x ∧
      s.launchMode.y = s.y ∧ s.launchMode.sp = s.sp := by
  obtain ⟨hix, his, hie, -⟩ := h
  unfold State.launchMode
  by_cases he : s.e = true
  · obtain ⟨hm, hx⟩ := hie he
    obtain ⟨hxh, hyh⟩ := hix hx
    rw [if_pos he, he, hm, hx]
    exact ⟨rfl, rfl, rfl, word_lo_of_hi hxh, word_lo_of_hi hyh, word_lo_of_hi (his he)⟩
  · rw [if_neg he, Bool.eq_false_of_not_eq_true he]
    by_cases hx : s.flagX = true
    · obtain ⟨hxh, hyh⟩ := hix hx
      rw [if_pos hx, hx]
      exact ⟨rfl, rfl, rfl, word_lo_of_hi hxh, word_lo_of_hi hyh, rfl⟩
    · rw [if_neg hx, Bool.eq_false_of_not_eq_true hx]
      exact ⟨rfl, rfl, rfl, rfl, rfl, rfl⟩

/-- R413: under the invariants the launch of a state builds that state. -/
theorem launch_state {s : State} (h : Inv s) : s.launch.state = s := by
  obtain ⟨he, hm, hx, hX, hY, hS⟩ := launchMode_eq h
  obtain ⟨-, -, -, hwf⟩ := h
  have hp : s.launch.status = s.p := by
    rw [Launch.status_eq, show s.launch.mode = s.launchMode from rfl, hm, hx]
    exact statusOf_flags s
  exact state_eq rfl hX hY hS rfl rfl rfl rfl hp he (launchMemory_cellsOf hwf) 
    ((BitVec.ofNat_toNat 64 s.cyc).trans (BitVec.setWidth_eq s.cyc))

/-! ### Runs -/

/-- A run of one step more that completes is a step that completes and then the run. -/
theorem run_succ_next {M : Host.Core} {s t : M.State} {n : Nat} (h : M.run (n + 1) s = .next t) :
    ∃ u, M.step s = .next u ∧ M.run n u = .next t := by
  rw [Host.Core.run] at h
  split at h
  case h_1 u hs => exact ⟨u, hs, h⟩
  case h_2 | h_3 => cases h

/-- R24, R25, R32: every state of a run meets the invariants that its first state meets. -/
theorem Inv.run {s t : State} {n : Nat} (h : Inv s) (ht : Sys2Proof.core.run n s = .next t) : Inv t := by
  induction n generalizing s with
  | zero =>
    cases ht
    exact h
  | succ n ih =>
    obtain ⟨u, hs, hu⟩ := run_succ_next ht
    exact ih (stepKeepsInvariants s u h hs) hu

/-- Settles O14: a launch by its mode, a state by its own launch, a run by its steps. -/
theorem runsFromHostResetKeepInvariants : Obligations.RunsFromHostResetKeepInvariants := by
  unfold Obligations.RunsFromHostResetKeepInvariants
  exact ⟨Launch.inv_state, fun s h => ⟨s.launch, launch_state h⟩, fun s t n h ht => (inv_hostReset h).run ht⟩

/-! ### A loaded image -/

/-- R411: loading changes no byte outside the image. -/
theorem readMem_hostLoad_other (s : State) {a b : Addr} {bytes : List Byte}
    (h : ∀ k < bytes.length, b ≠ a + BitVec.ofNat 24 k) : (hostLoad s a bytes).readMem b = s.readMem b := by
  induction bytes generalizing s a with
  | nil => rfl
  | cons v rest ih =>
    have hfirst : b ≠ a := by simpa using h 0 (Nat.zero_lt_succ _)
    have hrest : ∀ k < rest.length, b ≠ a + 1 + BitVec.ofNat 24 k := fun k hk => by
      have hk := h (k + 1) (Nat.succ_lt_succ hk)
      rwa [Nat.add_comm, BitVec.ofNat_add, ← BitVec.add_assoc] at hk
    exact (ih (hostWrite s a v) hrest).trans (readMem_writeMem_other s v hfirst)

/-- R411: each byte of an image that fits the memory lies at its place. -/
theorem readMem_hostLoad (s : State) (a : Addr) {bytes : List Byte} (hlen : bytes.length ≤ 2 ^ 24) {k : Nat}
    (hk : k < bytes.length) : (hostLoad s a bytes).readMem (a + BitVec.ofNat 24 k) = bytes.getD k 0x00 := by
  induction bytes generalizing s a k with
  | nil => cases hk
  | cons v rest ih =>
    rw [List.length_cons] at hlen hk
    cases k with
    | zero =>
      have hother : ∀ j < rest.length, a + BitVec.ofNat 24 0 ≠ a + 1 + BitVec.ofNat 24 j := fun j hj => by bv_omega
      exact (readMem_hostLoad_other (hostWrite s a v) hother).trans (by simp [hostWrite])
    | succ k =>
      rw [Nat.add_comm, BitVec.ofNat_add, ← BitVec.add_assoc, Nat.add_comm 1 k]
      exact ih (hostWrite s a v) (a + 1) (Nat.le_of_succ_le hlen) (Nat.lt_of_succ_lt_succ hk)

/-- Settles O15: `reset` reads its vector from the loaded bytes and keeps memory. -/
theorem loadedImageGivesResetVector : Obligations.LoadedImageGivesResetVector := by
  unfold Obligations.LoadedImageGivesResetVector
  intro s image low high hlen hlow hhigh
  have hread {k : Nat} (hk : k < 0x8000) : (hostLoad s 0x008000 image).readMem (0x008000 + BitVec.ofNat 24 k) =
      image.getD k 0x00 := readMem_hostLoad s 0x008000 (by rw [hlen]; decide) (hlen ▸ hk)
  have hfirst := hread (k := 0x7FFC) (by decide)
  have hsecond := hread (k := 0x7FFD) (by decide)
  rw [List.getD_eq_getElem?_getD, hlow] at hfirst
  rw [List.getD_eq_getElem?_getD, hhigh] at hsecond
  rw [hostReset_eq]
  refine ⟨congrArg₂ word hfirst hsecond, fun k hk => ?_⟩
  rw [BitVec.ofNat_add]
  exact hread hk

end Sys2Proof.Machine

/-! PROOFS. The cycle count (R364, R365, R425): every entry of R100 but WAI and STP completes with its base count and what its
penalty classes add, the parameters of timing reach nothing else, and the count lies between 2 and 9. -/

namespace Sys2Proof.Machine

open Sys2Proof.Claims

/-! ### Operators on a data location -/

/-- R365, R191: what an operator on a data location adds to the count: by its class, as the model charges it. -/
def operatorExtra (op : Mnemonic) (s : State) (loc : Loc) : Int :=
  match operatorPen op with
  | .m2 => extraRmw s
  | .x1 => extraRead s.flagX loc
  | _ => extraRead s.flagM loc

/-- R360, R364: an entry with a data location completes with its base, what its mode adds and what its operator adds. -/
theorem execEntry_location {i : Instr} {s : State} (h : (modeLoc i.mnemonic i.operand s).isSome = true)
    (hpei : i.mnemonic ≠ .pei) :
    ∃ f u, modeLoc i.mnemonic i.operand s = some f ∧ execEntry .std i.opcode i.mnemonic i.operand s =
      .next (u, baseCycles i.opcode + f.adj + operatorExtra i.mnemonic s f.operand) := by
  cases i <;> first
    | (cases h; done)
    | exact absurd rfl hpei
    | exact ⟨_, _, rfl, rfl⟩

/-- R42: an operator of class `m2` writes its operand, so it has no immediate form. -/
theorem isImmediate_of_m2 {i : Instr} (h : operatorPen i.mnemonic = .m2) : isImmediate i.operand = false := by
  cases i <;> first
    | rfl
    | cases h

/-- R364, R365: the count of an instruction with a data location. -/
theorem cycles_eq_operatorExtra {i : Instr} {s : State} {f : Formed Loc} (hf : modeLoc i.mnemonic i.operand s = some f)
    (hpei : i.mnemonic ≠ .pei) :
    cycles i s = baseCycles i.opcode + f.adj + operatorExtra i.mnemonic s f.operand := by
  have hclass : operatorPen i.mnemonic = .m1 ∨ operatorPen i.mnemonic = .x1 ∨ operatorPen i.mnemonic = .m2 := by
    cases i.mnemonic <;> decide
  rw [operatorExtra]
  rcases hclass with h | h | h <;> rw [h]
  · exact cycles_eq_extraRead hf hpei h
  · exact cycles_eq_extraRead_of_charge hf hpei (by rw [h]; rfl)
  · exact cycles_eq_of_operatorPen_m2 h (isImmediate_of_m2 h) hf

/-! ### The other operators -/

/-- The penalty classes of the operators without a data location, and of PEI, which pushes a pointer. -/
def controlPens : Mnemonic → List Pen
  | .bpl | .bmi | .bvc | .bvs | .bra | .bcc | .bcs | .bne | .beq => [.br]
  | .brk | .cop | .rti => [.e0]
  | .pha | .pla => [.m1]
  | .phx | .phy | .plx | .ply => [.x1]
  | .pei => [.dl]
  | _ => []

/-- R365, R425: the column "pen" of these operators. -/
theorem penOf_control {i : Instr} {s : State} (h : modeLoc i.mnemonic i.operand s = none ∨ i.mnemonic = .pei) :
    penOf i.opcode = controlPens i.mnemonic := by
  cases i <;> first
    | (rcases h with h | h <;> cases h; done)
    | (dsimp only [Instr.opcode, Instr.row]; rfl)

/-! ### Every instruction -/

/-- R364: the entry of `i` completes in `s` with the count that R425 and R365 give. -/
def Counts (i : Instr) (s : State) : Prop :=
  ∃ u, execEntry .std i.opcode i.mnemonic i.operand s = .next (u, cycles i s)

theorem counts_location {i : Instr} {s : State} (h : (modeLoc i.mnemonic i.operand s).isSome = true)
    (hpei : i.mnemonic ≠ .pei) : Counts i s := by
  obtain ⟨f, u, hf, hx⟩ := execEntry_location h hpei
  exact ⟨u, by rw [hx, cycles_eq_operatorExtra hf hpei]⟩

section Control

variable {i : Instr} {s u : State} (h : modeLoc i.mnemonic i.operand s = none ∨ i.mnemonic = .pei)

include h

/-- R425: an instruction with no penalty class. -/
theorem counts_base (hpens : controlPens i.mnemonic = [])
    (hx : execEntry .std i.opcode i.mnemonic i.operand s = .next (u, baseCycles i.opcode + 0 + 0)) : Counts i s :=
  ⟨u, by rw [hx, cycles_eq_base rfl ((penOf_control h).trans hpens)]⟩

/-- R365: an instruction with one penalty class, which its mode or its operator charges. -/
theorem counts_charge {p : Pen} {adj extra : Int} (hpens : controlPens i.mnemonic = [p])
    (hx : execEntry .std i.opcode i.mnemonic i.operand s = .next (u, baseCycles i.opcode + adj + extra))
    (hcharge : adj + extra = charge i s p) : Counts i s :=
  ⟨u, by rw [hx, cycles_eq_of_charge rfl ((penOf_control h).trans hpens) hcharge]⟩

/-- R365: an instruction with one penalty class, which its operator charges. -/
theorem counts_extra {p : Pen} (hpens : controlPens i.mnemonic = [p])
    (hx : execEntry .std i.opcode i.mnemonic i.operand s = .next (u, baseCycles i.opcode + 0 + charge i s p)) : Counts i s :=
  counts_charge h hpens hx (Int.zero_add _)

/-- R258: a branch, taken or not. -/
theorem counts_branch {disp : Byte} (hpens : controlPens i.mnemonic = [.br]) (hdisp : i.operand = .rel8 disp)
    (hx : execEntry .std i.opcode i.mnemonic i.operand s =
      branchWith i.opcode (branchTaken i.mnemonic s) (modeRel8 disp s) s) : Counts i s := by
  have hcharge : charge i s .br = if branchTaken i.mnemonic s then takenCycles s disp else 0 := by rw [charge, hdisp]
  rw [branchWith, takenPen_eq] at hx
  split at hx
  case isTrue ht =>
    rw [if_pos ht] at hcharge
    exact counts_charge (adj := 0) h hpens hx ((Int.zero_add _).trans hcharge.symm)
  case isFalse ht =>
    rw [if_neg ht] at hcharge
    exact counts_charge (adj := 0) h hpens hx hcharge.symm

end Control

/-- R16, R364, R365: every instruction but WAI and STP completes with its count: those that form no data location, and PEI, by
their penalty class; the others by their location. -/
theorem counts_of_mnemonic {i : Instr} (h : i.mnemonic ∉ [.wai, .stp]) (s : State) : Counts i s := by
  cases i
  case wai | stp => exact absurd (by decide) h
  case bpl | bmi | bvc | bvs | bra | bcc | bcs | bne | beq => exact counts_branch (.inl rfl) rfl rfl rfl
  case brk | cop | rti => exact counts_extra (p := .e0) (.inl rfl) rfl rfl
  case pha | pla => exact counts_extra (p := .m1) (.inl rfl) rfl rfl
  case phx | phy | plx | ply => exact counts_extra (p := .x1) (.inl rfl) rfl rfl
  case pei => exact counts_charge (p := .dl) (.inr rfl) rfl rfl ((Int.add_zero _).trans (dlPen_eq s))
  case php | phd | phk | phb | plp | pld | plb | pea | per | jmpPabs | jmpIabs | jmpIabsx | jmlPlong | jmlIlabs | jsrPabs
      | jsrIabsx | jsl | rts | rtl | brl | clc | sec | cld | sed | cli | sei | clv | rep | sep | xce | inx | iny | dex | dey
      | tax | tay | txa | tya | txy | tyx | tsx | txs | tcd | tdc | tcs | tsc | xba | mvn | mvp | nop | wdm =>
    exact counts_base (.inl rfl) rfl rfl
  all_goals exact counts_location rfl Mnemonic.noConfusion

/-! ### The parameters of timing -/

/-- What an executed entry leaves, its count apart. -/
def leftState (r : Counted) : Option State :=
  match r with
  | .next (t, _) => some t
  | .fault _ | .refused _ => none

theorem leftState_eq_some {r : Counted} {t : State} : leftState r = some t ↔ ∃ n, r = .next (t, n) := by
  rcases r with ⟨u, n⟩ | e | e <;> simp [leftState]

/-- R258: what a branch leaves does not depend on the parameters. -/
theorem leftState_branchWith (op : Byte) (taken : Bool) (f : Formed Word) (s : State) (P Q : Parameters) :
    leftState (branchWith op taken f s P) = leftState (branchWith op taken f s Q) := by
  cases taken <;> rfl

/-- R364, R365: the base counts and the page penalty reach the count alone: a conditional branch in either outcome, every other
entry in the one way it completes. -/
theorem leftState_execEntry_timing (base : Byte → Nat) (penalty : Mnemonic → Params.PageMode → Bool → Bool → Bool) (i : Instr)
    (s : State) :
    leftState (execEntry { Parameters.std with baseCycles := base, pagePenalty := penalty } i.opcode i.mnemonic i.operand s) =
      leftState (execEntry .std i.opcode i.mnemonic i.operand s) := by
  cases i
  case bpl | bmi | bvc | bvs | bcc | bcs | bne | beq => exact leftState_branchWith _ _ _ s _ _
  all_goals rfl

/-- R368: the total that a completed step leaves, modulo the width of `CYC`. -/
theorem add_ofInt_toNat {w : Nat} (c : BitVec w) (n : Int) :
    ((c + BitVec.ofInt w n).toNat : Int) = (c.toNat + n) % 2 ^ w := by
  rw [BitVec.toNat_add, BitVec.toNat_ofInt]
  push_cast
  rw [Int.toNat_of_nonneg (Int.emod_nonneg n (by positivity)), Int.add_emod_emod]

/-- Settles O9: the count is that of the entry, which leaves `CYC` to the step. -/
theorem cycleCountByPenaltyClass : Obligations.CycleCountByPenaltyClass := by
  unfold Obligations.CycleCountByPenaltyClass
  refine ⟨fun i s h => ?_, fun P s t n h => ?_⟩
  · obtain ⟨u, hu⟩ := counts_of_mnemonic h s
    have hcyc : u.cyc = s.cyc := execEntry_cyc hu
    refine ⟨u.addCycles (cycles i s), ?_, ?_, fun base penalty => ?_⟩
    · rw [← chargeCycles_execEntry_std, hu]
      rfl
    · rw [State.addCycles_cyc, hcyc]
    · rw [← leftState_eq_some, leftState_execEntry_timing, hu, ← hcyc]
      rfl
  · rw [stepWith_cyc h, add_ofInt_toNat]

/-! ### The bounds -/

/-- R365: the most that a penalty class adds. -/
def maxCharge : Pen → Int
  | .acc => 0
  | .m2 | .br => 2
  | _ => 1

/-- R365: a penalty class other than `acc` takes nothing off, and adds no more than that. -/
theorem charge_bounds (i : Instr) (s : State) {p : Pen} (hp : p ≠ .acc) : 0 ≤ charge i s p ∧ charge i s p ≤ maxCharge p := by
  cases p
  case acc => exact absurd rfl hp
  case mi | m1 | m2 => cases h : s.flagM <;> simp [charge, maxCharge, h]
  case xi | x1 => cases h : s.flagX <;> simp [charge, maxCharge, h]
  case e0 => cases h : s.e <;> simp [charge, maxCharge, h]
  case px => cases h : indexCrosses i.operand s <;> simp [charge, maxCharge, h]
  case dl =>
    rw [charge, dlCycle]
    split <;> decide
  case br =>
    rw [charge]
    split
    · unfold takenCycles
      split_ifs <;> decide
    · decide

/-- R425: the columns "cyc" and "pen": the accumulator forms have a base of 2 and the classes `m2` and `acc`, which cancel; every
other row has a base of at least 2 and reaches at most 9. -/
theorem row_bounds : ∀ op : Byte, (baseOf op = 2 ∧ penOf op = [.m2, .acc]) ∨
    (2 ≤ baseOf op ∧ .acc ∉ penOf op ∧ baseOf op + ((penOf op).map maxCharge).sum ≤ 9) := by
  decide

/-- R364, R425: the bounds of a count. -/
theorem cycles_bounds (i : Instr) (s : State) : 2 ≤ cycles i s ∧ cycles i s ≤ 9 := by
  rw [cycles]
  rcases row_bounds i.opcode with ⟨hbase, hpen⟩ | ⟨hbase, hacc, hmax⟩
  · have hcancel : charge i s .m2 + charge i s .acc = 0 := by cases h : s.flagM <;> simp [charge, h]
    rw [hbase, hpen, List.map_cons, List.map_singleton, List.sum_cons, List.sum_singleton, hcancel]
    decide
  · have hp {p : Pen} (h : p ∈ penOf i.opcode) := charge_bounds i s (ne_of_mem_of_not_mem h hacc)
    have hlow : 0 ≤ ((penOf i.opcode).map (charge i s)).sum :=
      List.sum_nonneg (List.forall_mem_map.mpr fun p h => (hp h).1)
    have hhigh : ((penOf i.opcode).map (charge i s)).sum ≤ ((penOf i.opcode).map maxCharge).sum :=
      List.sum_le_sum fun p h => (hp h).2
    omega

/-- Settles O10: an instruction that completes is neither WAI nor STP, and its count is within the bounds. -/
theorem everyInstructionCostsTwoToNineCycles : Obligations.EveryInstructionCostsTwoToNineCycles := by
  unfold Obligations.EveryInstructionCostsTwoToNineCycles
  intro i s t ht
  have hmn : i.mnemonic ∉ [.wai, .stp] := fun h => by
    rw [exec_unimplemented (opcode_of_mnemonic_wai_stp h)] at ht
    cases ht
  obtain ⟨u, hx, hcyc, -⟩ := cycleCountByPenaltyClass.1 i s hmn
  obtain rfl : u = t := Host.Outcome.next.inj (hx.symm.trans ht)
  obtain ⟨hlow, hhigh⟩ := cycles_bounds i s
  obtain ⟨n, hn⟩ := Int.eq_ofNat_of_zero_le (show 0 ≤ cycles i s by omega)
  rw [hn] at hcyc hlow hhigh
  exact ⟨n, by omega, by omega, hcyc⟩

end Sys2Proof.Machine
